-- ==== Sys2Proof/Word.lean ====
section
/-! DEFINITION. The word types of the CJ460: what the data sheet treats as bits. -/

namespace Sys2Proof

/-- One byte of a frame, a record or the limits block. -/
abbrev Byte := BitVec 8

/-- Machine time: an unsigned 32-bit count of milliseconds from the last reset that wraps
(scope, section 6). -/
abbrev Time := BitVec 32

/-- Track position: an unsigned 32-bit count of dmm that wraps (scope, section 6). -/
abbrev Pos := BitVec 32

/-- An unsigned 32-bit count that wraps. -/
abbrev Count := BitVec 32

end Sys2Proof
end

