-- ==== Sys2Proof/Syntax.lean ====
section
/-! DEFINITION. The commands of the CJ460, one constructor of `Instr` per row of
spec/opcode_table.json, and the contents of the eleven loaded tables that some of them carry. -/

namespace Sys2Proof

/-! ### Indexes and names -/

/-- A loop: 0 to 5 are the zones Z0 to Z5, 6 is the pot's loop P (R66). -/
abbrev LoopId := Fin 7
/-- A preheat zone Z0 to Z5. -/
abbrev ZoneId := Fin 6
/-- A mains phase: 0, 1, 2 are A, B, C. -/
abbrev PhaseId := Fin 3
/-- A heater gate HG0 to HG15. -/
abbrev GateId := Fin 16
/-- A spray nozzle 0 to 7. -/
abbrev NozzleId := Fin 8
/-- A hood: 0 is hood F, 1 is hood P. -/
abbrev HoodId := Fin 2
/-- A recipe index 0 to 15. -/
abbrev RecipeId := Fin 16
/-- An alarm slot 0 to 63 (R150). -/
abbrev SlotId := Fin 64
/-- A consumed signal id 0 to 18 (R172). -/
abbrev SignalId := Fin 19

/-- One of the two wave pumps (section 6.3). -/
inductive Pump
  | chip
  | main
  deriving DecidableEq, Repr

/-- The two copies of a table (R28). -/
inductive CopyName
  | staged
  | active
  deriving DecidableEq, Repr

/-- A target of a table: its header, or the entry at an index (R29). -/
inductive Target
  | header
  | entry (index : Nat)
  deriving DecidableEq, Repr

/-- The sections of STATUS_READ (R182), in the order that rule names them. -/
inductive StatusSection
  | trk | tbs | flx | lpu | fal | pot | exu | ilu | lnk | mge | mdc
  deriving DecidableEq, Repr

/-! ### The contents of the tables (section 2.4)

Numeric fields hold any value the format can carry; ranges are judged at the commit (R29, R33). -/

/-- Direction of a slot-map entry (R36). -/
inductive Direction
  | consumed
  | produced
  deriving DecidableEq, Repr

/-- An entry of the slot map, table 1 (R36). -/
structure MapEntry where
  signal : Nat
  slot : Nat
  direction : Direction
  /-- hold time in ms; consumed signals only -/
  hold : Option Nat
  /-- lost time in ms; consumed signals only -/
  lost : Option Nat
  deriving DecidableEq, Repr

/-- The place of one preheat zone (R37). -/
structure ZonePlace where
  start : Nat
  stop : Nat
  lead : Nat
  lag : Nat
  deriving DecidableEq, Repr

/-- The entry of the geometry table, table 2 (R37); distances in dmm. -/
structure Geometry where
  countsPerMetre : Nat
  confirm : Nat
  sprayPoint : Nat
  nozzleLead : Int
  zones : Vector ZonePlace 6
  chipWave : Nat
  mainWave : Nat
  boostLead : Nat
  boostLag : Nat
  chipLead : Nat
  chipLag : Nat
  exitLoc : Nat
  exitTol : Nat
  lengthTol : Nat
  deriving DecidableEq, Repr

/-- An entry of the loop table, table 3 (R38); temperatures in 0.1 °C, times in s. -/
structure LoopEntry where
  idle : Int
  kp : Nat
  ki : Nat
  umax : Nat
  band : Int
  runawayWindow : Nat
  runawayRise : Int
  settle : Nat
  deriving DecidableEq, Repr

/-- An entry of the gate table, table 4 (R39); `loop = none` is UNUSED. -/
structure GateEntry where
  loop : Option LoopId
  phase : Option PhaseId
  load : Option Nat
  priority : Option Nat
  enabled : Option Bool
  deriving DecidableEq, Repr

/-- An entry of the phase table, table 5 (R40). -/
structure PhaseEntry where
  frequency : Nat
  budget : Nat
  deriving DecidableEq, Repr

/-- The header of the recipe table, table 6 (R41); `defaultRecipe = none` is NONE. -/
structure RecipeHeader where
  defaultRecipe : Option Nat
  required : Bool
  deriving DecidableEq, Repr

/-- An entry of the recipe table, table 6 (R41); `fluxMap = none` is NONE. -/
structure Recipe where
  fluxMap : Option Nat
  fluxTarget : Option Nat
  fluxTol : Option Nat
  zoneSp : Vector (Option Int) 6
  zoneFf : Vector (Option Nat) 6
  chipUse : Bool
  contactSpeed : Nat
  bandMin : Int
  bandMax : Int
  boardGap : Nat
  transTol : Int
  transGap : Nat
  speedMin : Int
  speedMax : Int
  deriving DecidableEq, Repr

/-- An entry of the flux map table, table 7 (R42). A mask is a byte whose bit n, bit 0 the least significant, names
nozzle n: R42 gives a mask as a set of nozzles and no bit to any (DESIGN CHOICE, assumption 54). -/
structure FluxMap where
  segLen : Nat
  segCount : Nat
  masks : List Byte
  deriving DecidableEq, Repr

/-- The header of the nozzle table, table 8 (R43). -/
structure NozzleHeader where
  maxOpen : Nat
  minPress : Nat
  deriving DecidableEq, Repr

/-- An entry of the nozzle table, table 8 (R43). -/
structure NozzleEntry where
  flow : Nat
  enabled : Bool
  deriving DecidableEq, Repr

/-- A level-offset breakpoint of the pot table (R44). -/
structure Breakpoint where
  speed : Nat
  offset : Int
  deriving DecidableEq, Repr

/-- The entry of the pot table, table 9 (R44). -/
structure PotEntry where
  runSp : Int
  setbackSp : Int
  startMargin : Int
  setbackDelay : Nat
  disagree : Int
  levelRef : Int
  breakpoints : Vector Breakpoint 4
  feedOn : Int
  feedOff : Int
  lowLow : Int
  highHigh : Int
  feederMaxRun : Nat
  feederRate : Nat
  chipNominal : Nat
  chipIdle : Nat
  mainNominal : Nat
  mainIdle : Nat
  ramp : Nat
  pumpTol : Nat
  maxDwell : Nat
  conveyorSpeed : Nat
  deriving DecidableEq, Repr

/-- An entry of the extraction table, table 10 (R45). The levels of hood F are ACTIVE, IDLE, OFF
(`full`, `reduced`, `least`), those of hood P are HOT, COOL (`full`, `least`). -/
structure ExtractionEntry where
  kf : Nat
  reqFull : Nat
  reqReduced : Option Nat
  reqLeast : Nat
  fanFull : Nat
  fanReduced : Option Nat
  fanLeast : Nat
  vapourDwell : Option Nat
  hotThreshold : Option Int
  grace : Nat
  debounce : Nat
  lockout : Nat
  warnDrop : Nat
  maxDrop : Nat
  deriving DecidableEq, Repr

/-- Hold attribute of an alarm slot (R46). -/
inductive Hold
  | onLive
  | untilRead
  deriving DecidableEq, Repr

/-- An entry of the action table, table 11 (R46). -/
structure ActionEntry where
  cls : Nat
  hold : Hold
  mask : Bool
  deriving DecidableEq, Repr

/-! ### Staging items (R29) -/

/-- What a staging item gives for its target: the word EMPTY, a complete content, or a content one
of whose enumerated fields carries a value that names nothing. -/
inductive Content (α : Type)
  | empty
  | filled (a : α)
  | unnamed
  deriving DecidableEq, Repr

/-- One item of TABLE_STAGE, for a table with header type `H` and entry type `E`. -/
inductive StageItem (H E : Type)
  | header (c : Content H)
  | entry (index : Nat) (c : Content E)
  deriving DecidableEq, Repr

/-- The table number and the item list of TABLE_STAGE. A table without a header has header type
`Unit`, so that an item for its header can be written and refused. -/
inductive StageRequest
  | slotMap (items : List (StageItem Nat MapEntry))
  | geometry (items : List (StageItem Unit Geometry))
  | loop (items : List (StageItem Unit LoopEntry))
  | gate (items : List (StageItem Unit GateEntry))
  | phase (items : List (StageItem Unit PhaseEntry))
  | recipe (items : List (StageItem RecipeHeader Recipe))
  | fluxMap (items : List (StageItem Unit FluxMap))
  | nozzle (items : List (StageItem NozzleHeader NozzleEntry))
  | pot (items : List (StageItem Unit PotEntry))
  | extraction (items : List (StageItem Unit ExtractionEntry))
  | action (items : List (StageItem Unit ActionEntry))
  /-- a table number outside 1 to 11 -/
  | unknown (table : Nat)
  deriving DecidableEq, Repr

/-- The fields of LIMITS_WRITE (R195). -/
structure LimitsFields where
  hardMax : Vector Int 7
  ceiling : Vector Nat 3
  lockoutMin : Nat
  service : Vector Nat 2
  deriving DecidableEq, Repr

/-! ### The commands -/

/-- The commands: one constructor per row of spec/opcode_table.json, in the table's order.
A request command carries the record id `rid` its response echoes (R183). -/
inductive Instr
  | powerOnReset
  | rstnReset
  | startReadCompletion
  /-- the new state of the pair (ENCA, ENCB) -/
  | encoderCount (a b : Bool)
  | entryEyeActivation
  | entryEyeDeactivation
  | exitEyeActivation
  | exitEyeDeactivation
  | speedSample
  | zeroCrossEdge (phase : PhaseId)
  | phaseLossExpiry (phase : PhaseId)
  /-- the new level of the line -/
  | estopEdge (level : Bool)
  /-- the new level of the line -/
  | maintLineEdge (level : Bool)
  /-- the bytes of the frame as received on UP -/
  | frameArrival (bytes : List Byte)
  | holdTimeExpiry (signal : SignalId)
  | lostTimeExpiry (signal : SignalId)
  | absentTimeout (signal : SignalId)
  | linkTimeout
  | stuckValveExpiry (nozzle : NozzleId)
  | vapourDwellExpiry
  | nozzleTestElapsed
  | runawayWindowExpiry (loop : LoopId)
  | settleTimerExpiry (loop : LoopId)
  | setbackDelayExpiry
  | pumpFaultTimerExpiry (pump : Pump)
  | dwellExpiry
  | feederMaxRunExpiry
  | feederJogExpiry
  | graceExpiry (hood : HoodId)
  | debounceExpiry (hood : HoodId)
  | lockoutTimerExpiry (hood : HoodId)
  | filterTenthHour (hood : HoodId)
  /-- what the storage holds after the write when it is not what was written -/
  | writeCompletion (spoilt : Option (List Byte))
  /-- what the storage holds after the save when it is not what was written -/
  | saveCompletion (spoilt : Option (List Byte))
  | tableRead (rid : Byte) (table : Nat) (copy : CopyName) (first : Target) (count : Nat)
  | tableStage (rid : Byte) (items : StageRequest)
  | tableCommit (rid : Byte) (table : Nat)
  | tableDiscard (rid : Byte) (table : Nat)
  | announce (rid : Byte) (tag recipe : Nat) (expected : Option Nat) (skipFlux : Bool)
  | announceWithdraw (rid : Byte) (tag : Nat)
  | boardRead (rid : Byte)
  | alarmRead (rid : Byte) (clear : Bool)
  | statusRead (rid : Byte) (sect : StatusSection) (first : Nat)
  | modeSet (rid : Byte) (target : Nat)
  | loopSetEnable (rid : Byte) (loop : Nat)
  | loopSetDisable (rid : Byte) (loop : Nat)
  | potCommandStart (rid : Byte)
  | potCommandStop (rid : Byte)
  | potCommandSetback (rid : Byte)
  | potCommandResume (rid : Byte)
  | feederJog (rid : Byte) (duration : Nat)
  | trackPurge (rid : Byte) (withdraw : Bool)
  | faultClearLoop (rid : Byte) (loop : Nat)
  | faultClearNozzle (rid : Byte) (nozzle : Nat)
  | faultClearFilter (rid : Byte) (hood : Nat)
  | faultClearFeeder (rid : Byte) (index : Nat)
  | lockoutClear (rid : Byte)
  | nozzleTest (rid : Byte) (nozzle duration : Nat)
  | limitsRead (rid : Byte)
  | limitsWrite (rid : Byte) (fields : LimitsFields)
  | identRead (rid : Byte)
  | reset (rid : Byte)
  | rstnAssertion
  deriving DecidableEq, Repr

end Sys2Proof
end

