-- ==== Sys2Proof/Decode.lean ====
section
/-! DEFINITION. Decoding of command words. The CJ460 is a block: its commands come as record bytes, line
edges and expiries, and no row of spec/opcode_table.json gives bits, so no word spells a command. The
bodies of request records are read in Machine/Records.lean. -/

namespace Sys2Proof

/-- The command a word spells by the table's bits: none, since the table gives no row any bits. -/
def decodeTableWord (_nbits _w : Nat) : Option Instr := none

end Sys2Proof
end

