-- ==== Sys2Proof/Machine/Arith.lean ====
section
/-! DEFINITION. Arithmetic conventions of the data sheet (R1, R2, R3) and updates of fixed-size
collections. -/

namespace Sys2Proof.Machine

/-- Machine time elapsed since `since`, in ms: a difference modulo 2^32 (R1). -/
def elapsed (now since : Time) : Nat := (now - since).toNat

/-- Signed modular difference of two track positions: negative when it is 2^31 or more (R1). -/
def signedDiff (a b : Pos) : Int := (a - b).toInt

/-- A value clamped to a range (R3). -/
def clamp (lo hi x : Int) : Int := if x < lo then lo else if hi < x then hi else x

/-- A saturating count (R3): it stops at its maximum. -/
def satAdd (limit a b : Nat) : Nat := min limit (a + b)

/-- Integer division toward minus infinity (R2). -/
def floorDiv (a b : Int) : Int := Int.fdiv a b

/-- A number of seconds in ms. -/
def seconds (n : Nat) : Nat := n * 1000

/-- The largest whole number whose square does not exceed n (R133), found among 0 to `fuel`. -/
def isqrtBelow (n : Nat) : Nat → Nat
  | 0 => 0
  | fuel + 1 => if (fuel + 1) * (fuel + 1) ≤ n then fuel + 1 else isqrtBelow n fuel

/-- isqrt of a duct pressure (R133): a sample is below 2^15, so its root is below 256. -/
def isqrt (n : Nat) : Nat := isqrtBelow n 255

/-- The collection with the member at i changed by f. -/
def upd {α : Type} {n : Nat} (v : Vector α n) (i : Fin n) (f : α → α) : Vector α n :=
  v.set i (f v[i])

end Sys2Proof.Machine
end

