-- ==== Sys2Proof/Machine/Bytes.lean ====
section
/-! DEFINITION. Byte order, the two CRCs, and the readers and writers of the elementary fields of
records (R187, R188, R193). -/

namespace Sys2Proof.Machine

/-! ### Byte order: most significant byte first (section 10.7) -/

/-- The byte with the value n modulo 256. -/
def byte (n : Nat) : Byte := BitVec.ofNat 8 n

/-- An unsigned 8-bit field. -/
def put8 (n : Nat) : List Byte := [byte n]

/-- An unsigned 16-bit field. -/
def put16 (n : Nat) : List Byte := [byte (n / 256), byte n]

/-- An unsigned 32-bit field. -/
def put32 (n : Nat) : List Byte :=
  [byte (n / 16777216), byte (n / 65536), byte (n / 256), byte n]

/-- A signed 16-bit field in two's complement. -/
def putS16 (x : Int) : List Byte := put16 (BitVec.ofInt 16 x).toNat

/-- A signed 32-bit field in two's complement. -/
def putS32 (x : Int) : List Byte := put32 (BitVec.ofInt 32 x).toNat

/-- A yes/no field: 1 or 0. -/
def putBool (b : Bool) : List Byte := [if b then 1 else 0]

/-- An optional field: presence byte 0 or 1, then the field when present (R188). -/
def putOpt {α : Type} (f : α → List Byte) : Option α → List Byte
  | none => [0]
  | some a => 1 :: f a

/-- A list: its entry count, then its entries (R188). -/
def putList {α : Type} (f : α → List Byte) (l : List α) : List Byte :=
  put8 l.length ++ l.flatMap f

/-- The fields of a fixed number of members, in index order, with no count. -/
def putAll {α : Type} {n : Nat} (f : α → List Byte) (v : Vector α n) : List Byte :=
  v.toList.flatMap f

/-! ### Readers -/

/-- A reader of a field from the front of a byte list; it fails where the bytes run out or have not
the field's form. -/
abbrev Reader := StateT (List Byte) Option

/-- One unsigned byte. -/
def get8 : Reader Nat := fun
  | [] => none
  | b :: l => some (b.toNat, l)

/-- An unsigned 16-bit field. -/
def get16 : Reader Nat := do
  let hi ← get8
  let lo ← get8
  return hi * 256 + lo

/-- An unsigned 32-bit field. -/
def get32 : Reader Nat := do
  let hi ← get16
  let lo ← get16
  return hi * 65536 + lo

/-- A signed 16-bit field. -/
def getS16 : Reader Int := do
  let n ← get16
  return (BitVec.ofNat 16 n).toInt

/-- A signed 32-bit field. -/
def getS32 : Reader Int := do
  let n ← get32
  return (BitVec.ofNat 32 n).toInt

/-- A yes/no field; `none` when the byte names neither. -/
def getBool : Reader (Option Bool) := do
  let n ← get8
  return (match n with
    | 0 => some false
    | 1 => some true
    | _ => none)

/-- An optional field; a presence byte other than 0 and 1 is not of the form (R188). -/
def getOpt {α : Type} (r : Reader α) : Reader (Option α) := do
  let n ← get8
  match n with
  | 0 => return none
  | 1 => do
    let a ← r
    return some a
  | _ => fun _ => none

/-- n fields, one after the other. -/
def getMany {α : Type} (r : Reader α) : Nat → Reader (List α)
  | 0 => pure []
  | n + 1 => do
    let a ← r
    let l ← getMany r n
    return a :: l

/-- A list preceded by its entry count. -/
def getList {α : Type} (r : Reader α) : Reader (List α) := do
  let n ← get8
  getMany r n

/-- Exactly n fields as a fixed-size collection. -/
def getAll {α : Type} (r : Reader α) (n : Nat) : Reader (Vector α n) := do
  let l ← getMany r n
  if h : l.length = n then return ⟨l.toArray, by simpa using h⟩ else fun _ => none

/-- What a reader gives when it uses up all bytes. -/
def readWhole {α : Type} (r : Reader α) (l : List Byte) : Option α :=
  match r l with
  | some (a, []) => some a
  | _ => none

/-! ### CRCs -/

/-- One bit of the CRC-16 register, most significant bit first, polynomial 0x3D65 (R187). -/
def crc16Bit (c : BitVec 16) : BitVec 16 :=
  if c.msb then (c <<< 1) ^^^ 0x3D65#16 else c <<< 1

/-- One byte into the CRC-16 register. -/
def crc16Byte (c : BitVec 16) (b : Byte) : BitVec 16 :=
  let c := c ^^^ ((b.setWidth 16) <<< 8)
  crc16Bit (crc16Bit (crc16Bit (crc16Bit (crc16Bit (crc16Bit (crc16Bit (crc16Bit c)))))))

/-- The CRC-16 of a byte sequence, starting at 0xFFFF, used as it stands (R187). -/
def crc16 (l : List Byte) : BitVec 16 := l.foldl crc16Byte 0xFFFF#16

/-- One bit of the CRC-8 register, polynomial 0x9B (R193). -/
def crc8Bit (c : BitVec 8) : BitVec 8 :=
  if c.msb then (c <<< 1) ^^^ 0x9B#8 else c <<< 1

/-- One byte into the CRC-8 register. -/
def crc8Byte (c : BitVec 8) (b : Byte) : BitVec 8 :=
  let c := c ^^^ b
  crc8Bit (crc8Bit (crc8Bit (crc8Bit (crc8Bit (crc8Bit (crc8Bit (crc8Bit c)))))))

/-- The CRC-8 of the limits block (R193): over its fields and the bytes 0x5A and 0xC3, starting at
0xFF, inverted before it is stored. -/
def blockCrc (fields : List Byte) : Byte :=
  ~~~((fields ++ [0x5A#8, 0xC3#8]).foldl crc8Byte 0xFF#8)

end Sys2Proof.Machine
end

