-- ==== Sys2Proof/Config.lean ====
section
/-! DEFINITION. What the part fixes by number, and the free values: constants with no body, about
which nothing can be proved but what holds of every value. -/

namespace Sys2Proof.Config

/-- What the storage of the limits block holds after supply was lost during the n-th such write
(R197: it "can leave a block that fails its CRC"). FREE VALUE, assumption 6. -/
opaque tornBlock : Nat → List Byte

/-- The write count that a storage content gives when it is not a block whose CRC matches
(R195 increases "the write count" of a block that then is none). FREE VALUE, assumption 7. -/
opaque writeCountOfNoBlock : List Byte → BitVec 16

/-- Which pot thermocouple counts as "the lower one" (R73) when both show the same value and are
treated as disagreeing; true names TEMP.PB. FREE VALUE, assumption 8. -/
opaque tiedLowerIsB : Int → Bool

/-- Identification constants (R197). -/
def vendorCode : Nat := 1207
/-- Part code (R197). -/
def partCode : Nat := 460
/-- Revision (R197). -/
def revision : Nat := 1

/-- Capacity of the announcement ring (R13). -/
def ringSize : Nat := 16
/-- Capacity of the tracking queue (R15). -/
def queueSize : Nat := 24
/-- Capacity of the completion queue (R22). -/
def completionSize : Nat := 16
/-- Longest record (section 10.2) in bytes. -/
def recordSize : Nat := 512
/-- Longest body of a record (R188). -/
def bodySize : Nat := 506
/-- The longest time a storage operation takes, in ms (R194, R195, R196). -/
def storeTime : Nat := 40
/-- The link timeout while no slot map is committed, in ms (R175). -/
def defaultLinkTimeout : Nat := 500
/-- The sampling interval of the speed, in ms (R7). -/
def sampleInterval : Nat := 250
/-- The time a pump fault condition holds before the alarm, in ms (R118). -/
def pumpFaultTime : Nat := 2000
/-- One tenth of an hour in ms (R144). -/
def tenthHour : Nat := 360000
/-- The largest unsigned 32-bit value, at which volumes, grams and hours saturate. -/
def max32 : Nat := 4294967295

/-- How often one event may pass on a change of the standing action that its own effects bring
about (assumption 10). -/
def settleRounds : Nat := 8

end Sys2Proof.Config
end

