-- ==== Sys2Proof/Machine/State.lean ====
section
/-! DEFINITION. The state of the CJ460 as plain data, block by block, and its value after a power-on
reset (R27, R47, R65, R88, R106, R132, R149, R167, R178, R186, R197). -/

namespace Sys2Proof.Machine

/-! ### Direct lines (scope, section 5) -/

/-- The levels of the direct input lines as the part last saw them; true is active. `rstn` is true
while the RSTN line is active, and `straps` is what NA0 to NA5 carry. -/
structure Lines where
  encA : Bool
  encB : Bool
  bes : Bool
  bxs : Bool
  estop : Bool
  maint : Bool
  rstn : Bool
  straps : BitVec 6
  deriving DecidableEq, Repr

/-! ### Track Unit -/

/-- State of a photo-eye (R8); PENDING keeps the activation position and time. -/
inductive EyeState
  | clear
  | pending (pos : Pos) (time : Time)
  | confirmed
  deriving DecidableEq, Repr

/-- An announcement of the ring (R13). -/
structure Announcement where
  tag : Nat
  recipe : RecipeId
  expected : Option Nat
  skipFlux : Bool
  deriving DecidableEq, Repr

/-- Flags of a board record (R15). -/
structure BoardFlags where
  unannounced : Bool
  admitViolation : Bool
  lengthMismatch : Bool
  skipFlux : Bool
  deriving DecidableEq, Repr

/-- Flux outcome of a board (R55). -/
inductive FluxOutcome
  | none | skipped | cutShort | uncertain | low | high | ok
  deriving DecidableEq, Repr

/-- Flux part of a board record (R15, R55); volume in nl. -/
structure FluxPart where
  outcome : FluxOutcome
  volume : Nat
  deriving DecidableEq, Repr

/-- Zone entry of the preheat part (R86). -/
structure ZoneEntry where
  pvMin : Int
  pvMax : Int
  inBand : Bool
  deriving DecidableEq, Repr

/-- The six pot states (R107). -/
inductive PotState
  | off | heating | ready | setback | recovering | fault
  deriving DecidableEq, Repr

/-- Wave part of a board record (R119); duration in ms. -/
structure WavePart where
  potState : PotState
  pvMin : Option Int
  pvMax : Option Int
  duration : Option Nat
  dwellExceeded : Bool
  deriving DecidableEq, Repr

/-- A board record (R15); `recipe = none` is NONE. -/
structure BoardRecord where
  tag : Nat
  recipe : Option RecipeId
  pIn : Pos
  tIn : Time
  len : Option Nat
  expected : Option Nat
  flags : BoardFlags
  flux : Option FluxPart
  preheat : Vector (Option ZoneEntry) 6
  wave : Option WavePart
  deriving DecidableEq, Repr

/-- A window of a board (R12): it opens once and closes once. -/
inductive WindowState
  | before | opened | closed
  deriving DecidableEq, Repr

/-- The windows of one board (R12). -/
structure Windows where
  spray : WindowState
  zone : Vector WindowState 6
  boost : WindowState
  chip : WindowState
  deriving DecidableEq, Repr

/-- One place of the tracking queue: the record, its windows, and whether its contact interval has
begun (R119: it begins once). -/
structure Board where
  data : BoardRecord
  windows : Windows
  contactBegun : Bool
  deriving DecidableEq, Repr

/-- How a board left (section 1.7). -/
inductive BoardOutcome
  | exited | lost | purged
  deriving DecidableEq, Repr

/-- A completion record (R21). -/
structure Completion where
  data : BoardRecord
  outcome : BoardOutcome
  exitTime : Option Time
  deriving DecidableEq, Repr

/-- The Track Unit (chapter 1). `awaiting` is P_in of the record awaiting its trailing edge (R9). -/
structure Trk where
  remainder : Nat
  pos : Pos
  high : Pos
  speed : Int
  sampledPos : Pos
  nextSample : Time
  entryEye : EyeState
  exitEye : EyeState
  awaiting : Option Pos
  ring : List Announcement
  queue : List Board
  completions : List Completion
  discards : Nat
  entered : Count
  completed : Count
  deriving DecidableEq, Repr

/-! ### Table Store -/

/-- One copy of a table: a header (tables without one keep `none`) and n entries, each EMPTY
(`none`) or filled (R28). -/
structure TableCopy (H E : Type) (n : Nat) where
  header : Option H
  entries : Vector (Option E) n
  deriving DecidableEq, Repr

/-- A table: its two copies and its committed-since-reset flag (R28). -/
structure Table (H E : Type) (n : Nat) where
  staged : TableCopy H E n
  active : TableCopy H E n
  committed : Bool
  deriving DecidableEq, Repr

/-- The Table Store: the eleven tables (R28). -/
structure Tbs where
  slotMap : Table Nat MapEntry 64
  geometry : Table Unit Geometry 1
  loop : Table Unit LoopEntry 7
  gate : Table Unit GateEntry 16
  phase : Table Unit PhaseEntry 3
  recipe : Table RecipeHeader Recipe 16
  fluxMap : Table Unit FluxMap 8
  nozzle : Table NozzleHeader NozzleEntry 8
  pot : Table Unit PotEntry 1
  extraction : Table Unit ExtractionEntry 2
  action : Table Unit ActionEntry 64
  deriving DecidableEq, Repr

/-! ### Flux Unit -/

/-- Whom an open interval belongs to: the board that entered at a position, or the nozzle test
(section 3.4). -/
inductive ValveOwner
  | board (pIn : Pos)
  | test
  deriving DecidableEq, Repr

/-- An open interval of a valve (section 3.4). -/
structure Interval where
  owner : ValveOwner
  openedAt : Time
  rate : Nat
  maxOpen : Nat
  doubt : Bool
  deriving DecidableEq, Repr

/-- A nozzle: its valve (`none` is closed), fault flag, entry in force and waiting entry (R43). -/
structure Nozzle where
  valve : Option Interval
  faulted : Bool
  inForce : Option NozzleEntry
  waiting : Option NozzleEntry
  deriving DecidableEq, Repr

/-- Disposition of a spray account (R49, R56). -/
inductive Disposition
  | noMap | skipped | toSpray | cut
  deriving DecidableEq, Repr

/-- The spray account of the board that entered at `board` (R49); volume in nl. -/
structure Account where
  board : Pos
  disposition : Disposition
  volume : Nat
  uncertain : Bool
  deriving DecidableEq, Repr

/-- A running nozzle test (R62); its opening time and doubt mark are those of its open interval. -/
structure NozzleTest where
  nozzle : NozzleId
  duration : Nat
  deriving DecidableEq, Repr

/-- End cause of a nozzle test (R63). -/
inductive TestEnd
  | elapsed | stuck | inhibit | modeLeft
  deriving DecidableEq, Repr

/-- The last-test record (R63). -/
structure TestRecord where
  nozzle : NozzleId
  requested : Nat
  openFor : Nat
  volume : Nat
  doubt : Bool
  cause : TestEnd
  deriving DecidableEq, Repr

/-- The Flux Unit (chapter 3). `dwellFrom` is the latest valve closing while the vapour dwell
runs (R61). -/
structure Flx where
  nozzles : Vector Nozzle 8
  accounts : List Account
  dwellFrom : Option Time
  fluxing : Bool
  test : Option NozzleTest
  lastTest : Option TestRecord
  deriving DecidableEq, Repr

/-! ### Loop Unit -/

/-- Loop state (R66). -/
inductive LoopMode
  | off | active | fault
  deriving DecidableEq, Repr

/-- The set of fault causes (R66). -/
structure Causes where
  sensorLost : Bool
  overtemp : Bool
  runaway : Bool
  deriving DecidableEq, Repr

/-- A running runaway window (R82). -/
structure RunawayWindow where
  start : Time
  pvStart : Int
  deriving DecidableEq, Repr

/-- A loop (R66). `controller` is the controlling board's tag. -/
structure Loop where
  mode : LoopMode
  causes : Causes
  setpoint : Option Int
  controller : Option Nat
  ff : Nat
  pv : Option Int
  integral : Nat
  demand : Nat
  window : Option RunawayWindow
  inBand : Bool
  settleFrom : Option Time
  settled : Bool
  deriving DecidableEq, Repr

/-- Which pot signals form the standing PV of loop P (R72, R87). -/
inductive PvSource
  | none | pa | pb | both
  deriving DecidableEq, Repr

/-- The Loop Unit (chapter 4). -/
structure Lpu where
  loops : Vector Loop 7
  potSource : PvSource
  deriving DecidableEq, Repr

/-! ### Firing Allocator -/

/-- The last allocation record of a phase (R102). -/
structure AllocRecord where
  start : Time
  budget : Nat
  granted : List GateId
  used : Nat
  denied : Nat
  deriving DecidableEq, Repr

/-- A mains phase (chapter 5). `frequency` is the one in use (R92), `committedAt` the machine time of
the first commit of the phase table since reset (R91). -/
structure Phase where
  frequency : Option Nat
  lastEdge : Option Time
  committedAt : Option Time
  budget : Option Nat
  pointers : Vector GateId 4
  last : Option AllocRecord
  deriving DecidableEq, Repr

/-- A heater gate: firing credit and firing state (chapter 5). -/
structure Gate where
  credit : Nat
  firing : Bool
  deriving DecidableEq, Repr

/-- The Firing Allocator (chapter 5). PHASE_LOST and STARVED are the live flags of their slots. -/
structure Fal where
  phases : Vector Phase 3
  gates : Vector Gate 16
  starve : Vector Nat 7
  deriving DecidableEq, Repr

/-! ### Pot Unit -/

/-- A wave pump: target, command and running fault timer (chapter 6). -/
structure PumpState where
  target : Nat
  command : Nat
  faultFrom : Option Time
  deriving DecidableEq, Repr

/-- The running contact interval (R119): the board by entry position and tag, its start, wave drop
(R121), and whether WAVE_NOT_READY has latched in it (R120). -/
structure Contact where
  board : Pos
  tag : Nat
  start : Time
  waveDrop : Bool
  reported : Bool
  deriving DecidableEq, Repr

/-- The feeder (section 6.6), with its turn-on time and a jog's requested duration. -/
inductive Feeder
  | off
  | on (since : Time)
  | jog (since : Time) (duration : Nat)
  deriving DecidableEq, Repr

/-- The Pot Unit (chapter 6); `level = none` is UNKNOWN. -/
structure Pot where
  state : PotState
  readyAt : Option Time
  idleFrom : Option Time
  pumpsStarted : Bool
  chip : PumpState
  main : PumpState
  lastFrame : Option Time
  contact : Option Contact
  level : Option Int
  feedOnCount : Nat
  feeder : Feeder
  feederEnabled : Bool
  grams : Nat
  deriving DecidableEq, Repr

/-! ### Extraction Unit -/

/-- Requirement level: hood F has ACTIVE, IDLE, OFF (`full`, `reduced`, `least`), hood P HOT, COOL
(`full`, `least`) (R134, R135). -/
inductive HoodLevel
  | full | reduced | least
  deriving DecidableEq, Repr

/-- A running debounce timer and the state it is timing toward (R138). -/
structure Debounce where
  start : Time
  towardLow : Bool
  deriving DecidableEq, Repr

/-- A hood (chapter 7); `airflow = none` is UNKNOWN. The alarms are the live flags of their slots. -/
structure Hood where
  airflow : Option Nat
  level : HoodLevel
  requirement : Option Nat
  fan : Nat
  graceFrom : Option Time
  debounce : Option Debounce
  lockoutFrom : Option Time
  hours : Nat
  accumulator : Nat
  runningSince : Option Time
  deriving DecidableEq, Repr

/-- The Extraction Unit (chapter 7). `lockout` is the FUME_LOCKOUT flag with its recorded hood. -/
structure Exu where
  hoods : Vector Hood 2
  lockout : Option HoodId
  deriving DecidableEq, Repr

/-! ### Interlock Unit -/

/-- An alarm slot (R151). -/
structure AlarmSlot where
  live : Bool
  latched : Bool
  detail : Int
  deriving DecidableEq, Repr

/-- Admission reasons (R161). -/
inductive Reason
  | none | wrongMode | notReady | action | noAnnouncement | queueFull | pot | zone | speed | flux | gap
  deriving DecidableEq, Repr

/-- The next board (R160). -/
structure NextBoard where
  tag : Nat
  recipe : RecipeId
  skipFlux : Bool
  deriving DecidableEq, Repr

/-- The Interlock Unit (chapter 8). -/
structure Ilu where
  slots : Vector AlarmSlot 64
  standing : Nat
  notice : Bool
  permit : Bool
  convRun : Bool
  bcnA : Bool
  bcnR : Bool
  entryPermit : Bool
  reason : Reason
  nextBoard : Option NextBoard
  requiredGap : Option Nat
  deriving DecidableEq, Repr

/-! ### Link Port -/

/-- State of a consumed signal (R171). -/
inductive SignalState
  | absent | valid | held | lost
  deriving DecidableEq, Repr

/-- A row of the signal table (chapter 9). -/
structure Signal where
  state : SignalState
  value : Option Int
  fresh : Option Time
  lastSeq : Option Nat
  lastQuality : Option Nat
  producer : Option Byte
  deriving DecidableEq, Repr

/-- The produced record of a produced signal (R174). -/
structure Produced where
  seq : Nat
  last : Option (BitVec 16)
  deriving DecidableEq, Repr

/-- The Link Port (chapter 9). `linkFrom` is the last good frame or the reset, `mapSince` the commit of
the slot map in force, `down` the frame last forwarded on DOWN. -/
structure Lnk where
  signals : Vector Signal 19
  produced : Vector Produced 10
  mapSince : Option Time
  linkFrom : Time
  good : Count
  bad : Count
  short : Count
  badSince : Nat
  lastNumber : Option (BitVec 16)
  down : List Byte
  deriving DecidableEq, Repr

/-! ### Management Engine -/

/-- Reassembly state with its buffer (chapter 10). -/
inductive Reassembly
  | idle
  | collecting (rid : Byte) (expected : Nat) (buffer : List Byte)
  | discarding (rid : Byte)
  deriving DecidableEq, Repr

/-- Status codes (R185). -/
inductive Status
  | done | busy | refused | badRecord | unknownKind | failed
  deriving DecidableEq, Repr

/-- The held response record, its fields before packing (R183, R188), and the number of its segments
sent. -/
structure Response where
  rid : Byte
  kind : Nat
  status : Status
  reason : Nat
  body : List Byte
  sent : Nat
  deriving DecidableEq, Repr

/-- The Management Engine (chapter 10). -/
structure Mge where
  reassembly : Reassembly
  response : Option Response
  deferred : Option (Byte × Nat)
  dispatched : Count
  badRecords : Count
  discarded : Count
  deriving DecidableEq, Repr

/-! ### Mode Controller and Limits Store -/

/-- The device mode (section 11.1). -/
inductive Mode
  | starting | config | run | maintenance
  deriving DecidableEq, Repr

/-- Reset cause (R197). -/
inductive ResetCause
  | powerOn | rstnLine | resetRequest
  deriving DecidableEq, Repr

/-- The Mode Controller (chapter 11). -/
structure Mdc where
  mode : Mode
  notReady : Bool
  awaited : List SignalId
  cause : ResetCause
  strap : BitVec 6
  deriving DecidableEq, Repr

/-- The fields of the limits block (R193). -/
structure Block where
  hardMax : Vector Int 7
  ceiling : Vector Nat 3
  lockoutMin : Nat
  hours : Vector Nat 2
  service : Vector Nat 2
  writeCount : Nat
  deriving DecidableEq, Repr

/-- The limits in force (R194); `service = none` is "no service interval". -/
structure Limits where
  hardMax : Vector Int 7
  ceiling : Vector Nat 3
  lockoutMin : Nat
  service : Option (Vector Nat 2)
  deriving DecidableEq, Repr

/-- The operation in flight (R194 to R196), with its start and the block being written. -/
inductive StoreOp
  | startRead (start : Time)
  | write (start : Time) (block : Block)
  | save (start : Time) (block : Block)
  deriving DecidableEq, Repr

/-- The Limits Store. `storage` is the non-volatile storage, `limits` the limits in force (none until
the start-up read completes), `block` the block as checked when it is valid, `detail` the validity's
detail (0 valid). -/
structure Lst where
  storage : List Byte
  limits : Option Limits
  block : Option Block
  detail : Nat
  op : Option StoreOp
  waiting : Vector (Option Nat) 2
  deriving DecidableEq, Repr

/-! ### The machine -/

/-- The whole part. `now` is machine time, `freeIndex` the model's own counter of free values
(assumption 6), `pending` the model's queue of commands, first in first out. -/
structure State where
  lines : Lines
  now : Time
  trk : Trk
  tbs : Tbs
  flx : Flx
  lpu : Lpu
  fal : Fal
  pot : Pot
  exu : Exu
  ilu : Ilu
  lnk : Lnk
  mge : Mge
  mdc : Mdc
  lst : Lst
  freeIndex : Nat
  pending : List Instr
  deriving DecidableEq, Repr

/-- Faults. No command of the CJ460 stops the part, so nothing raises this one; it is safe. -/
inductive Fault
  /-- raised by no command: kept so that the type has a value -/
  | unreachable
  deriving DecidableEq, Repr

/-- Refusals. -/
inductive Refusal
  /-- raised by an arm of `exec` whose command has no meaning yet; safe -/
  | notModelled (mnemonic : String)
  deriving DecidableEq, Repr

/-! ### Reset values, block by block -/

/-- TRK after a reset (R27). -/
def Trk.afterReset : Trk where
  remainder := 0
  pos := 0
  high := 0
  speed := 0
  sampledPos := 0
  nextSample := 250
  entryEye := .clear
  exitEye := .clear
  awaiting := none
  ring := []
  queue := []
  completions := []
  discards := 0
  entered := 0
  completed := 0

/-- A table whose copies are all EMPTY and whose flag is clear (R47). -/
def Table.empty (H E : Type) (n : Nat) : Table H E n :=
  ⟨⟨none, Vector.replicate n none⟩, ⟨none, Vector.replicate n none⟩, false⟩

/-- TBS after a reset (R47). -/
def Tbs.afterReset : Tbs where
  slotMap := Table.empty _ _ _
  geometry := Table.empty _ _ _
  loop := Table.empty _ _ _
  gate := Table.empty _ _ _
  phase := Table.empty _ _ _
  recipe := Table.empty _ _ _
  fluxMap := Table.empty _ _ _
  nozzle := Table.empty _ _ _
  pot := Table.empty _ _ _
  extraction := Table.empty _ _ _
  action := Table.empty _ _ _

/-- FLX after a reset (R65). -/
def Flx.afterReset : Flx where
  nozzles := Vector.replicate 8 ⟨none, false, none, none⟩
  accounts := []
  dwellFrom := none
  fluxing := false
  test := none
  lastTest := none

/-- A loop after a reset (R88). -/
def Loop.afterReset : Loop where
  mode := .off
  causes := ⟨false, false, false⟩
  setpoint := none
  controller := none
  ff := 0
  pv := none
  integral := 0
  demand := 0
  window := none
  inBand := false
  settleFrom := none
  settled := false

/-- LPU after a reset (R88). -/
def Lpu.afterReset : Lpu := ⟨Vector.replicate 7 Loop.afterReset, .none⟩

/-- FAL after a reset (R106). -/
def Fal.afterReset : Fal where
  phases := Vector.replicate 3 ⟨none, none, none, none, Vector.replicate 4 0, none⟩
  gates := Vector.replicate 16 ⟨0, false⟩
  starve := Vector.replicate 7 0

/-- POT after a reset (R132). -/
def Pot.afterReset : Pot where
  state := .off
  readyAt := none
  idleFrom := none
  pumpsStarted := false
  chip := ⟨0, 0, none⟩
  main := ⟨0, 0, none⟩
  lastFrame := none
  contact := none
  level := none
  feedOnCount := 0
  feeder := .off
  feederEnabled := true
  grams := 0

/-- A hood after a reset, at the given level (R149). -/
def Hood.afterReset (level : HoodLevel) : Hood where
  airflow := none
  level := level
  requirement := none
  fan := 0
  graceFrom := none
  debounce := none
  lockoutFrom := none
  hours := 0
  accumulator := 0
  runningSince := none

/-- EXU after a reset that keeps the given lockout flag (R149). -/
def Exu.afterReset (lockout : Option HoodId) : Exu where
  hoods := #v[Hood.afterReset .least, Hood.afterReset .full]
  lockout := lockout

/-- A slot that is clear. -/
def AlarmSlot.clear : AlarmSlot := ⟨false, false, 0⟩

/-- The slot table after a reset: slot 54 live and latched when the lockout flag was kept (R167), and
slot 0 live and latched when the ESTOP line is active (R152). -/
def slotsAfterReset (lockout : Option HoodId) (estop : Bool) : Vector AlarmSlot 64 :=
  let slots := Vector.replicate 64 AlarmSlot.clear
  let slots := if estop then slots.set 0 ⟨true, true, 0⟩ else slots
  match lockout with
  | none => slots
  | some h => slots.set 54 ⟨true, true, h.val⟩

/-- ILU after a reset (R167, R152). The standing action is that of the floors of the slots that stand,
DROP_PERMIT for ESTOP and INHIBIT_FLUX_NOW for FUME_LOCKOUT (R153). -/
def Ilu.afterReset (lockout : Option HoodId) (estop : Bool) : Ilu where
  slots := slotsAfterReset lockout estop
  standing := if estop then 5 else if lockout.isSome then 3 else 0
  notice := estop || lockout.isSome
  permit := false
  convRun := false
  bcnA := estop || lockout.isSome
  bcnR := estop || lockout.isSome
  entryPermit := false
  reason := .wrongMode
  nextBoard := none
  requiredGap := none

/-- LNK after a reset (R178). -/
def Lnk.afterReset : Lnk where
  signals := Vector.replicate 19 ⟨.absent, none, none, none, none, none⟩
  produced := Vector.replicate 10 ⟨0, none⟩
  mapSince := none
  linkFrom := 0
  good := 0
  bad := 0
  short := 0
  badSince := 0
  lastNumber := none
  down := []

/-- MGE after a reset (R186). -/
def Mge.afterReset : Mge where
  reassembly := .idle
  response := none
  deferred := none
  dispatched := 0
  badRecords := 0
  discarded := 0

/-- MDC after a reset of the given cause with the given straps (R192, R197). -/
def Mdc.afterReset (cause : ResetCause) (straps : BitVec 6) : Mdc where
  mode := .starting
  notReady := true
  awaited := []
  cause := cause
  strap := straps

/-- LST after a reset with the given storage content: START_READ in flight (R194, R197). -/
def Lst.afterReset (storage : List Byte) : Lst where
  storage := storage
  limits := none
  block := none
  detail := 0
  op := some (.startRead 0)
  waiting := #v[none, none]

/-- The direct lines as the model takes them at State.reset: all inactive, straps 17
(DESIGN CHOICE, assumption 4). -/
def Lines.atReset : Lines where
  encA := false
  encB := false
  bes := false
  bxs := false
  estop := false
  maint := false
  rstn := false
  straps := 17

/-- The state right after a reset, from what outlives it: the lines, the storage, the kept lockout
flag, the free-value counter and the queue. -/
def State.afterReset (lines : Lines) (storage : List Byte) (lockout : Option HoodId)
    (cause : ResetCause) (freeIndex : Nat) (pending : List Instr) : State where
  lines := lines
  now := 0
  trk := Trk.afterReset
  tbs := Tbs.afterReset
  flx := Flx.afterReset
  lpu := Lpu.afterReset
  fal := Fal.afterReset
  pot := Pot.afterReset
  exu := Exu.afterReset lockout
  ilu := Ilu.afterReset lockout lines.estop
  lnk := Lnk.afterReset
  mge := Mge.afterReset
  mdc := Mdc.afterReset cause lines.straps
  lst := Lst.afterReset storage
  freeIndex := freeIndex
  pending := pending

/-- The machine right after a power-on reset of a new part, whose storage has never been written
(R194; an empty content, assumption 5). -/
def State.reset : State :=
  State.afterReset Lines.atReset [] none .powerOn 0 []

end Sys2Proof.Machine
end

