-- ==== Sys2Proof/Machine/Codec.lean ====
section
/-! DEFINITION. The packed forms of table contents, of TABLE_STAGE items and of the limits block
(R188, R193). The fields stand in the order section 2.4 and R193 list them; the widths are those of
R188, and a quantity R188 does not name is 32 bits wide (DESIGN CHOICE, assumption 11). -/

namespace Sys2Proof.Machine

/-! ### Enumerations: each field's values numbered in the order its rule names them -/

/-- Direction: 0 CONSUMED, 1 PRODUCED (R36). -/
def directionCode : Direction → Nat
  | .consumed => 0
  | .produced => 1

/-- The direction a code names. -/
def directionOf : Nat → Option Direction
  | 0 => some .consumed
  | 1 => some .produced
  | _ => none

/-- Hold attribute: 0 HOLD_ON_LIVE, 1 HOLD_UNTIL_READ (R46). -/
def holdCode : Hold → Nat
  | .onLive => 0
  | .untilRead => 1

/-- The hold attribute a code names. -/
def holdOf : Nat → Option Hold
  | 0 => some .onLive
  | 1 => some .untilRead
  | _ => none

/-- Gate loop: 0 to 6 for Z0 to Z5 and P, 7 UNUSED (R39). -/
def gateLoopCode : Option LoopId → Nat
  | some l => l.val
  | none => 7

/-- The gate loop a code names. -/
def gateLoopOf (n : Nat) : Option (Option LoopId) :=
  if h : n < 7 then some (some ⟨n, h⟩) else if n = 7 then some none else none

/-- The phase a code names: 0 A, 1 B, 2 C. -/
def phaseOf (n : Nat) : Option PhaseId := if h : n < 3 then some ⟨n, h⟩ else none

/-- A content whose enumerated fields all name something, or one that is unnamed (R29). -/
def named {α : Type} : Option α → Content α
  | some a => .filled a
  | none => .unnamed

/-- An optional enumerated field: absent, named, or naming nothing. -/
def namedOpt {α : Type} : Option (Option α) → Option (Option α)
  | none => some none
  | some (some a) => some (some a)
  | some none => none

/-! ### Writers of table contents -/

def putMapEntry (e : MapEntry) : List Byte :=
  put8 e.signal ++ put8 e.slot ++ put8 (directionCode e.direction) ++ putOpt put32 e.hold ++
    putOpt put32 e.lost

def putZonePlace (z : ZonePlace) : List Byte :=
  put32 z.start ++ put32 z.stop ++ put32 z.lead ++ put32 z.lag

def putGeometry (g : Geometry) : List Byte :=
  put32 g.countsPerMetre ++ put32 g.confirm ++ put32 g.sprayPoint ++ putS32 g.nozzleLead ++
    putAll putZonePlace g.zones ++ put32 g.chipWave ++ put32 g.mainWave ++ put32 g.boostLead ++
    put32 g.boostLag ++ put32 g.chipLead ++ put32 g.chipLag ++ put32 g.exitLoc ++ put32 g.exitTol ++
    put32 g.lengthTol

def putLoopEntry (e : LoopEntry) : List Byte :=
  putS16 e.idle ++ put32 e.kp ++ put32 e.ki ++ put16 e.umax ++ putS16 e.band ++
    put32 e.runawayWindow ++ putS16 e.runawayRise ++ put32 e.settle

def putGateEntry (e : GateEntry) : List Byte :=
  put8 (gateLoopCode e.loop) ++ putOpt (fun p : PhaseId => put8 p.val) e.phase ++
    putOpt put16 e.load ++ putOpt put8 e.priority ++ putOpt putBool e.enabled

def putPhaseEntry (e : PhaseEntry) : List Byte := put32 e.frequency ++ put16 e.budget

/-- The recipe table's header (R41). A default recipe of NONE is an optional field that is absent, as a recipe's
flux map of NONE is (DESIGN CHOICE, assumption 11). -/
def putRecipeHeader (h : RecipeHeader) : List Byte := putOpt put8 h.defaultRecipe ++ putBool h.required

def putRecipe (r : Recipe) : List Byte :=
  putOpt put8 r.fluxMap ++ putOpt put32 r.fluxTarget ++ putOpt put32 r.fluxTol ++
    putAll (putOpt putS16) r.zoneSp ++ putAll (putOpt put16) r.zoneFf ++ putBool r.chipUse ++
    put16 r.contactSpeed ++ putS16 r.bandMin ++ putS16 r.bandMax ++ put32 r.boardGap ++
    putS16 r.transTol ++ put32 r.transGap ++ putS16 r.speedMin ++ putS16 r.speedMax

def putFluxMap (m : FluxMap) : List Byte :=
  put32 m.segLen ++ put32 m.segCount ++ putList (fun b => [b]) m.masks

def putNozzleHeader (h : NozzleHeader) : List Byte := put32 h.maxOpen ++ put16 h.minPress

def putNozzleEntry (e : NozzleEntry) : List Byte := put32 e.flow ++ putBool e.enabled

def putBreakpoint (b : Breakpoint) : List Byte := put16 b.speed ++ putS16 b.offset

def putPotEntry (p : PotEntry) : List Byte :=
  putS16 p.runSp ++ putS16 p.setbackSp ++ putS16 p.startMargin ++ put32 p.setbackDelay ++
    putS16 p.disagree ++ putS16 p.levelRef ++ putAll putBreakpoint p.breakpoints ++
    putS16 p.feedOn ++ putS16 p.feedOff ++ putS16 p.lowLow ++ putS16 p.highHigh ++
    put32 p.feederMaxRun ++ put32 p.feederRate ++ put16 p.chipNominal ++ put16 p.chipIdle ++
    put16 p.mainNominal ++ put16 p.mainIdle ++ put32 p.ramp ++ put16 p.pumpTol ++
    put32 p.maxDwell ++ put16 p.conveyorSpeed

def putExtractionEntry (e : ExtractionEntry) : List Byte :=
  put32 e.kf ++ put16 e.reqFull ++ putOpt put16 e.reqReduced ++ put16 e.reqLeast ++
    put16 e.fanFull ++ putOpt put16 e.fanReduced ++ put16 e.fanLeast ++
    putOpt put32 e.vapourDwell ++ putOpt putS16 e.hotThreshold ++ put32 e.grace ++
    put32 e.debounce ++ put32 e.lockout ++ put16 e.warnDrop ++ put16 e.maxDrop

def putActionEntry (e : ActionEntry) : List Byte :=
  put8 e.cls ++ put8 (holdCode e.hold) ++ putBool e.mask

/-- The header of a table without one is never filled. -/
def putUnit (_ : Unit) : List Byte := []

/-! ### Readers of table contents -/

def getMapEntry : Reader (Content MapEntry) := do
  let signal ← get8
  let slot ← get8
  let d ← get8
  let hold ← getOpt get32
  let lost ← getOpt get32
  return named ((directionOf d).map fun direction => ⟨signal, slot, direction, hold, lost⟩)

def getZonePlace : Reader ZonePlace := do
  let start ← get32
  let stop ← get32
  let lead ← get32
  let lag ← get32
  return ⟨start, stop, lead, lag⟩

def getGeometry : Reader (Content Geometry) := do
  let countsPerMetre ← get32
  let confirm ← get32
  let sprayPoint ← get32
  let nozzleLead ← getS32
  let zones ← getAll getZonePlace 6
  let chipWave ← get32
  let mainWave ← get32
  let boostLead ← get32
  let boostLag ← get32
  let chipLead ← get32
  let chipLag ← get32
  let exitLoc ← get32
  let exitTol ← get32
  let lengthTol ← get32
  return .filled ⟨countsPerMetre, confirm, sprayPoint, nozzleLead, zones, chipWave, mainWave, boostLead,
    boostLag, chipLead, chipLag, exitLoc, exitTol, lengthTol⟩

def getLoopEntry : Reader (Content LoopEntry) := do
  let idle ← getS16
  let kp ← get32
  let ki ← get32
  let umax ← get16
  let band ← getS16
  let runawayWindow ← get32
  let runawayRise ← getS16
  let settle ← get32
  return .filled ⟨idle, kp, ki, umax, band, runawayWindow, runawayRise, settle⟩

def getGateEntry : Reader (Content GateEntry) := do
  let l ← get8
  let p ← getOpt get8
  let load ← getOpt get16
  let priority ← getOpt get8
  let en ← getOpt getBool
  return named (do
    let loop ← gateLoopOf l
    let phase ← namedOpt (p.map phaseOf)
    let enabled ← namedOpt en
    some ⟨loop, phase, load, priority, enabled⟩)

def getPhaseEntry : Reader (Content PhaseEntry) := do
  let frequency ← get32
  let budget ← get16
  return .filled ⟨frequency, budget⟩

def getRecipeHeader : Reader (Content RecipeHeader) := do
  let defaultRecipe ← getOpt get8
  let req ← getBool
  return named (req.map fun required => ⟨defaultRecipe, required⟩)

def getRecipe : Reader (Content Recipe) := do
  let fluxMap ← getOpt get8
  let fluxTarget ← getOpt get32
  let fluxTol ← getOpt get32
  let zoneSp ← getAll (getOpt getS16) 6
  let zoneFf ← getAll (getOpt get16) 6
  let chip ← getBool
  let contactSpeed ← get16
  let bandMin ← getS16
  let bandMax ← getS16
  let boardGap ← get32
  let transTol ← getS16
  let transGap ← get32
  let speedMin ← getS16
  let speedMax ← getS16
  return named (chip.map fun chipUse => ⟨fluxMap, fluxTarget, fluxTol, zoneSp, zoneFf, chipUse,
    contactSpeed, bandMin, bandMax, boardGap, transTol, transGap, speedMin, speedMax⟩)

/-- A list of masks longer than the 128 of R42 is not of the form (R181, check 5). -/
def getFluxMap : Reader (Content FluxMap) := do
  let segLen ← get32
  let segCount ← get32
  let masks ← getList get8
  if masks.length ≤ 128 then return .filled ⟨segLen, segCount, masks.map byte⟩ else fun _ => none

def getNozzleHeader : Reader (Content NozzleHeader) := do
  let maxOpen ← get32
  let minPress ← get16
  return .filled ⟨maxOpen, minPress⟩

def getNozzleEntry : Reader (Content NozzleEntry) := do
  let flow ← get32
  let en ← getBool
  return named (en.map fun enabled => ⟨flow, enabled⟩)

def getBreakpoint : Reader Breakpoint := do
  let speed ← get16
  let offset ← getS16
  return ⟨speed, offset⟩

def getPotEntry : Reader (Content PotEntry) := do
  let runSp ← getS16
  let setbackSp ← getS16
  let startMargin ← getS16
  let setbackDelay ← get32
  let disagree ← getS16
  let levelRef ← getS16
  let breakpoints ← getAll getBreakpoint 4
  let feedOn ← getS16
  let feedOff ← getS16
  let lowLow ← getS16
  let highHigh ← getS16
  let feederMaxRun ← get32
  let feederRate ← get32
  let chipNominal ← get16
  let chipIdle ← get16
  let mainNominal ← get16
  let mainIdle ← get16
  let ramp ← get32
  let pumpTol ← get16
  let maxDwell ← get32
  let conveyorSpeed ← get16
  return .filled ⟨runSp, setbackSp, startMargin, setbackDelay, disagree, levelRef, breakpoints, feedOn,
    feedOff, lowLow, highHigh, feederMaxRun, feederRate, chipNominal, chipIdle, mainNominal, mainIdle,
    ramp, pumpTol, maxDwell, conveyorSpeed⟩

def getExtractionEntry : Reader (Content ExtractionEntry) := do
  let kf ← get32
  let reqFull ← get16
  let reqReduced ← getOpt get16
  let reqLeast ← get16
  let fanFull ← get16
  let fanReduced ← getOpt get16
  let fanLeast ← get16
  let vapourDwell ← getOpt get32
  let hotThreshold ← getOpt getS16
  let grace ← get32
  let debounce ← get32
  let lockout ← get32
  let warnDrop ← get16
  let maxDrop ← get16
  return .filled ⟨kf, reqFull, reqReduced, reqLeast, fanFull, fanReduced, fanLeast, vapourDwell,
    hotThreshold, grace, debounce, lockout, warnDrop, maxDrop⟩

def getActionEntry : Reader (Content ActionEntry) := do
  let cls ← get8
  let h ← get8
  let m ← getBool
  return named (do
    let hold ← holdOf h
    let mask ← m
    some ⟨cls, hold, mask⟩)

/-! ### Targets and items -/

/-- A target: an entry by its index, the header as the target before entry 0, that is 0xFF
(DESIGN CHOICE, assumption 12). -/
def putTarget : Target → List Byte
  | .header => [0xFF]
  | .entry i => put8 i

/-- The target a byte names. -/
def targetOf (n : Nat) : Target := if n = 255 then .header else .entry n

/-- A content or the word EMPTY: presence byte, then the content (DESIGN CHOICE, assumption 11). -/
def getContent {α : Type} (r : Reader (Content α)) : Reader (Content α) := do
  let c ← getOpt r
  return (match c with
    | some c => c
    | none => .empty)

/-- One item of TABLE_STAGE for a table with a header. -/
def getItem {H E : Type} (h : Reader (Content H)) (e : Reader (Content E)) :
    Reader (StageItem H E) := do
  let n ← get8
  match targetOf n with
  | .header => do
    let c ← getContent h
    return .header c
  | .entry i => do
    let c ← getContent e
    return .entry i c

/-- Items of a table without a header. A header target names nothing there and gives its content no form, so
that what follows it is not judged (R181, check 5), and the owner refuses the request RANGE (R29). -/
def getEntryItems {E : Type} (e : Reader (Content E)) : Nat → Reader (List (StageItem Unit E))
  | 0 => pure []
  | n + 1 => do
    let t ← get8
    match targetOf t with
    | .header => fun _ => some ([.header (.filled ())], [])
    | .entry i => do
      let c ← getContent e
      let l ← getEntryItems e n
      return .entry i c :: l

/-- The list of items of a table without a header. -/
def getEntries {E : Type} (e : Reader (Content E)) : Reader (List (StageItem Unit E)) := do
  let n ← get8
  getEntryItems e n

/-- The body of TABLE_STAGE after its table number (R29). A table number outside 1 to 11 leaves the
rest of the body unjudged (R181). A list of no items is of the form (DESIGN CHOICE, assumption 42). -/
def getStage : Reader StageRequest := do
  let t ← get8
  match t with
  | 1 => do return .slotMap (← getList (getItem (do return named (some (← get32))) getMapEntry))
  | 2 => do return .geometry (← getEntries getGeometry)
  | 3 => do return .loop (← getEntries getLoopEntry)
  | 4 => do return .gate (← getEntries getGateEntry)
  | 5 => do return .phase (← getEntries getPhaseEntry)
  | 6 => do return .recipe (← getList (getItem getRecipeHeader getRecipe))
  | 7 => do return .fluxMap (← getEntries getFluxMap)
  | 8 => do return .nozzle (← getList (getItem getNozzleHeader getNozzleEntry))
  | 9 => do return .pot (← getEntries getPotEntry)
  | 10 => do return .extraction (← getEntries getExtractionEntry)
  | 11 => do return .action (← getEntries getActionEntry)
  | t => fun _ => some (.unknown t, [])

/-! ### The limits block (R193) -/

/-- The fields of the limits block in the order of R193. Widths: DESIGN CHOICE, assumption 29. -/
def putBlockFields (b : Block) : List Byte :=
  putAll putS16 b.hardMax ++ putAll put16 b.ceiling ++ put32 b.lockoutMin ++ putAll put32 b.hours ++
    putAll put32 b.service ++ put16 b.writeCount

/-- The limits block as stored: fields, then the CRC byte (R193). -/
def putBlock (b : Block) : List Byte := putBlockFields b ++ [blockCrc (putBlockFields b)]

/-- The fields of the limits block, read back. -/
def getBlockFields : Reader Block := do
  let hardMax ← getAll getS16 7
  let ceiling ← getAll get16 3
  let lockoutMin ← get32
  let hours ← getAll get32 2
  let service ← getAll get32 2
  let writeCount ← get16
  return ⟨hardMax, ceiling, lockoutMin, hours, service, writeCount⟩

/-- A storage content read as a block whose CRC matches; `none` is a CRC mismatch. -/
def readBlock (l : List Byte) : Option Block :=
  match l.reverse with
  | [] => none
  | crc :: fields =>
    if blockCrc fields.reverse = crc then readWhole getBlockFields fields.reverse else none

/-- Every field lies in its range (R193). -/
def Block.inRange (b : Block) : Bool :=
  b.hardMax.toList.all (fun x => decide (0 ≤ x ∧ x ≤ 6000)) &&
    b.ceiling.toList.all (fun x => decide (x ≤ 1000)) &&
    decide (10 ≤ b.lockoutMin ∧ b.lockoutMin ≤ 600) &&
    b.service.toList.all (fun x => decide (1 ≤ x ∧ x ≤ 10000))

/-- The fields of LIMITS_WRITE within their ranges (R195, R193). -/
def limitsInRange (f : LimitsFields) : Bool :=
  Block.inRange ⟨f.hardMax, f.ceiling, f.lockoutMin, #v[0, 0], f.service, 0⟩

/-- The fields of LIMITS_WRITE, in the order of R195. -/
def getLimitsFields : Reader LimitsFields := do
  let hardMax ← getAll getS16 7
  let ceiling ← getAll get16 3
  let lockoutMin ← get32
  let service ← getAll get32 2
  return ⟨hardMax, ceiling, lockoutMin, service⟩

end Sys2Proof.Machine
end

