-- ==== Sys2Proof/Machine/Ops.lean ====
section
/-! DEFINITION. The named reads and updates every block shares: active table entries, limits in
force, signals, board locations (R11), and the alarm slots (R150, R151, R153). -/

namespace Sys2Proof.Machine

/-! ### Lists of the fixed indexes, in order -/

def allLoops : List LoopId := [0, 1, 2, 3, 4, 5, 6]
def allZones : List ZoneId := [0, 1, 2, 3, 4, 5]
def allPhases : List PhaseId := [0, 1, 2]
def allGates : List GateId := [0, 1, 2, 3, 4, 5, 6, 7, 8, 9, 10, 11, 12, 13, 14, 15]
def allNozzles : List NozzleId := [0, 1, 2, 3, 4, 5, 6, 7]
def allHoods : List HoodId := [0, 1]
def allSignals : List SignalId := [0, 1, 2, 3, 4, 5, 6, 7, 8, 9, 10, 11, 12, 13, 14, 15, 16, 17, 18]
def allProduced : List (Fin 10) := [0, 1, 2, 3, 4, 5, 6, 7, 8, 9]

/-- Loop P. -/
def loopP : LoopId := 6
/-- The loop of a zone. -/
def zoneLoop (k : ZoneId) : LoopId := ⟨k.val, by omega⟩
/-- Hood F. -/
def hoodF : HoodId := 0
/-- Hood P. -/
def hoodP : HoodId := 1

/-! ### Active table entries (R28: blocks read the active copy) -/

/-- The active entry of a table at an index. -/
def Table.at {H E : Type} {n : Nat} (t : Table H E n) (i : Fin n) : Option E := t.active.entries[i]

def activeGeometry (s : State) : Option Geometry := s.tbs.geometry.at 0
def activeLoop (s : State) (l : LoopId) : Option LoopEntry := s.tbs.loop.at l
def activeGate (s : State) (g : GateId) : Option GateEntry := s.tbs.gate.at g
def activePhase (s : State) (p : PhaseId) : Option PhaseEntry := s.tbs.phase.at p
def activePot (s : State) : Option PotEntry := s.tbs.pot.at 0
def activeExtraction (s : State) (h : HoodId) : Option ExtractionEntry := s.tbs.extraction.at h
def activeAction (s : State) (k : SlotId) : Option ActionEntry := s.tbs.action.at k
def activeRecipe (s : State) (r : RecipeId) : Option Recipe := s.tbs.recipe.at r

/-- The active flux map of an index; none outside 0 to 7 or EMPTY. -/
def activeMap (s : State) (m : Nat) : Option FluxMap :=
  if h : m < 8 then s.tbs.fluxMap.at ⟨m, h⟩ else none

/-- A recipe that is active-valid (R28). -/
def activeValid (s : State) (r : RecipeId) : Bool :=
  s.tbs.recipe.committed && (activeRecipe s r).isSome

/-- The recipe of a board; none for NONE. -/
def boardRecipe (s : State) (b : BoardRecord) : Option Recipe := b.recipe.bind (activeRecipe s)

/-! ### Limits in force -/

/-- The hard maximum in force of a loop (R194). -/
def hardMax (s : State) (l : LoopId) : Option Int := s.lst.limits.map fun x => x.hardMax[l]

/-- A setpoint clamped to at most the loop's hard maximum − 50 (R75). With no hard maximum in force,
during the start-up read alone, nothing bounds it (DEDUCED, assumption 17). -/
def clampSetpoint (s : State) (l : LoopId) (x : Int) : Int :=
  match hardMax s l with
  | none => x
  | some m => min x (m - 50)

/-! ### Signals (chapter 9) -/

/-- The signal table row of an id. -/
def signal (s : State) (i : SignalId) : Signal := s.lnk.signals[i]

/-- The active slot-map entry that maps a signal id; entries are taken in index order. -/
def mapOf (s : State) (id : Nat) : Option MapEntry :=
  s.tbs.slotMap.active.entries.toList.findSome? fun e =>
    match e with
    | some m => if m.signal = id then some m else none
    | none => none

/-- The active slot map maps a consumed signal. -/
def mapped (s : State) (i : SignalId) : Bool := (mapOf s i.val).isSome

/-- VALID or HELD: the signal has a value the part acts on. -/
def Signal.readable (g : Signal) : Bool := g.state = .valid || g.state = .held

/-- The latest value of a VALID or HELD signal. -/
def latest (s : State) (i : SignalId) : Option Int :=
  if (signal s i).readable then (signal s i).value else none

/-- The classes of R71. -/
inductive SignalClass
  | usable | lost | awaited
  deriving DecidableEq, Repr

/-- The class of a signal (R71). -/
def classOf (s : State) (i : SignalId) : SignalClass :=
  match (signal s i).state with
  | .valid => .usable
  | .held => .usable
  | .lost => .lost
  | .absent => if mapped s i then .awaited else .lost

/-- The signal of a zone's thermocouple (R172). -/
def zoneSignal (k : ZoneId) : SignalId := ⟨k.val, by omega⟩
def sigPA : SignalId := 6
def sigPB : SignalId := 7
def sigFlux : SignalId := 8
def sigProbe : SignalId := 9
def sigFeed : SignalId := 12
/-- The feedback signal of a pump (R172). -/
def sigPump : Pump → SignalId
  | .chip => 10
  | .main => 11
/-- Duct pressure of a hood (R172). -/
def sigDuct (h : HoodId) : SignalId := ⟨13 + h.val, by omega⟩
/-- Filter pressure of a hood (R172). -/
def sigFilter (h : HoodId) : SignalId := ⟨15 + h.val, by omega⟩
/-- Fan feedback of a hood (R172). -/
def sigFan (h : HoodId) : SignalId := ⟨17 + h.val, by omega⟩

/-- The loop's signal is lost (R71); for P both pot signals are (R79). -/
def loopSignalLost (s : State) (l : LoopId) : Bool :=
  if h : l.val < 6 then classOf s (zoneSignal ⟨l.val, h⟩) = .lost
  else classOf s sigPA = .lost && classOf s sigPB = .lost

/-! ### Boards and locations (R11) -/

/-- The leading location of a board: signed modular difference, position minus P_in. -/
def leading (s : State) (b : BoardRecord) : Int := signedDiff s.trk.pos b.pIn

/-- The trailing location: leading − L, and 0 while L is absent. -/
def trailing (s : State) (b : BoardRecord) : Int :=
  match b.len with
  | some l => leading s b - l
  | none => 0

/-- The board spans a location. -/
def spans (s : State) (b : BoardRecord) (loc : Int) : Bool :=
  decide (loc ≤ leading s b) && decide (trailing s b ≤ loc)

/-- The board spans a stretch. -/
def spansStretch (s : State) (b : BoardRecord) (lo hi : Int) : Bool :=
  decide (lo ≤ leading s b) && decide (trailing s b ≤ hi)

/-- The queue with the record of the board that entered at p changed by f. -/
def mapBoard (q : List Board) (p : Pos) (f : Board → Board) : List Board :=
  q.map fun b => if b.data.pIn = p then f b else b

/-- The state with the record of one board changed. -/
def updBoard (s : State) (p : Pos) (f : Board → Board) : State :=
  { s with trk := { s.trk with queue := mapBoard s.trk.queue p f } }

/-- The board in the queue that entered at p. A board is known by its entry position (DEDUCED, assumption
37). -/
def findBoard (s : State) (p : Pos) : Option Board := s.trk.queue.find? fun b => b.data.pIn = p

/-- The windows of a board (R12). -/
inductive WindowId
  | spray
  | zone (k : ZoneId)
  | boost
  | chip
  deriving DecidableEq, Repr

/-- The windows in the order the model takes them at one event (assumption 9). -/
def allWindows : List WindowId :=
  [.spray, .zone 0, .zone 1, .zone 2, .zone 3, .zone 4, .zone 5, .chip, .boost]

/-- The state of one window. -/
def Windows.get (w : Windows) : WindowId → WindowState
  | .spray => w.spray
  | .zone k => w.zone[k]
  | .boost => w.boost
  | .chip => w.chip

/-- One window put into a state. -/
def Windows.put (w : Windows) (i : WindowId) (x : WindowState) : Windows :=
  match i with
  | .spray => { w with spray := x }
  | .zone k => { w with zone := w.zone.set k x }
  | .boost => { w with boost := x }
  | .chip => { w with chip := x }

/-- A window is open. -/
def Board.isOpen (b : Board) (i : WindowId) : Bool := b.windows.get i = .opened

/-- The evaluation point E (R48). -/
def evalPoint (g : Geometry) : Int := g.sprayPoint + g.nozzleLead

/-- The opening location S − a and the closing location S + b of a window (R12). -/
def windowSpan (g : Geometry) : WindowId → Int × Int
  | .spray => (evalPoint g, evalPoint g)
  | .zone k => ((g.zones[k].start : Int) - g.zones[k].lead, (g.zones[k].stop : Int) + g.zones[k].lag)
  | .boost => ((g.mainWave : Int) - g.boostLead, (g.mainWave : Int) + g.boostLag)
  | .chip => ((g.chipWave : Int) - g.chipLead, (g.chipWave : Int) + g.chipLag)

/-! ### Loops, pumps, hoods -/

def getLoop (s : State) (l : LoopId) : Loop := s.lpu.loops[l]

def updLoop (s : State) (l : LoopId) (f : Loop → Loop) : State :=
  { s with lpu := { s.lpu with loops := upd s.lpu.loops l f } }

def getPump (s : State) : Pump → PumpState
  | .chip => s.pot.chip
  | .main => s.pot.main

def setPump (s : State) (p : Pump) (x : PumpState) : State :=
  match p with
  | .chip => { s with pot := { s.pot with chip := x } }
  | .main => { s with pot := { s.pot with main := x } }

def getHood (s : State) (h : HoodId) : Hood := s.exu.hoods[h]

def updHood (s : State) (h : HoodId) (f : Hood → Hood) : State :=
  { s with exu := { s.exu with hoods := upd s.exu.hoods h f } }

def getPhase (s : State) (p : PhaseId) : Phase := s.fal.phases[p]

def updPhase (s : State) (p : PhaseId) (f : Phase → Phase) : State :=
  { s with fal := { s.fal with phases := upd s.fal.phases p f } }

/-! ### Alarm slots (R150, R151) -/

def slotEstop : SlotId := 0
def slotLinkLost : SlotId := 1
def slotLimitsInvalid : SlotId := 2
def slotPhaseLost (p : PhaseId) : SlotId := ⟨3 + p.val, by omega⟩
def slotInputHeld : SlotId := 6
def slotPurged : SlotId := 7
def slotSensorLost (l : LoopId) : SlotId := ⟨8 + l.val, by omega⟩
def slotPotDegraded : SlotId := 15
def slotOvertemp (l : LoopId) : SlotId := ⟨16 + l.val, by omega⟩
def slotRunaway (l : LoopId) : SlotId := ⟨23 + l.val, by omega⟩
def slotStarved (l : LoopId) : SlotId := ⟨30 + l.val, by omega⟩
def slotLevelLow : SlotId := 37
def slotLevelHigh : SlotId := 38
def slotFeederTimeout : SlotId := 39
def slotPumpFault : Pump → SlotId
  | .chip => 40
  | .main => 41
def slotWaveNotReady : SlotId := 42
def slotFluxPressure : SlotId := 43
def slotNozzleStuck : SlotId := 44
def slotFluxTol : SlotId := 45
def slotExtractLow (h : HoodId) : SlotId := ⟨46 + h.val, by omega⟩
def slotFilterLoaded (h : HoodId) : SlotId := ⟨48 + h.val, by omega⟩
def slotFilterBlocked (h : HoodId) : SlotId := ⟨50 + h.val, by omega⟩
def slotFanStopped (h : HoodId) : SlotId := ⟨52 + h.val, by omega⟩
def slotLockout : SlotId := 54
def slotServiceDue : SlotId := 55
def slotTrackOverflow : SlotId := 56
def slotBoardLost : SlotId := 57
def slotPhantom : SlotId := 58
def slotReverse : SlotId := 59
def slotSpeed : SlotId := 60
def slotWaveDwell : SlotId := 61
def slotAdmitViolation : SlotId := 62
def slotOverrun : SlotId := 63

/-- The slot is live. -/
def isLive (s : State) (k : SlotId) : Bool := s.ilu.slots[k].live

/-- The state with one slot changed. -/
def updSlot (s : State) (k : SlotId) (f : AlarmSlot → AlarmSlot) : State :=
  { s with ilu := { s.ilu with slots := upd s.ilu.slots k f } }

/-- The event that makes a live slot live: it latches and takes the detail (R151). A slot that is
live already is not raised again. -/
def AlarmSlot.raise (d : Int) (x : AlarmSlot) : AlarmSlot :=
  if x.live then x else ⟨true, true, d⟩

/-- The same where the owner gives the detail anew while the slot is live: the detail is replaced (R151). -/
def AlarmSlot.raiseAnew (d : Int) (_ : AlarmSlot) : AlarmSlot := ⟨true, true, d⟩

/-- The event that clears a live flag: latched flag and detail stand (R151). -/
def AlarmSlot.lower (x : AlarmSlot) : AlarmSlot := { x with live := false }

/-- The event of a one-shot slot: latched, detail replaced, live flag unchanged (R151). -/
def AlarmSlot.latch (d : Int) (x : AlarmSlot) : AlarmSlot := { x with latched := true, detail := d }

def raiseSlot (s : State) (k : SlotId) (d : Int) : State := updSlot s k (AlarmSlot.raise d)
def raiseSlotAnew (s : State) (k : SlotId) (d : Int) : State := updSlot s k (AlarmSlot.raiseAnew d)
def lowerSlot (s : State) (k : SlotId) : State := updSlot s k AlarmSlot.lower
def latchSlot (s : State) (k : SlotId) (d : Int) : State := updSlot s k (AlarmSlot.latch d)

/-- A live slot judged: live while the condition holds. -/
def judgeSlot (s : State) (k : SlotId) (c : Bool) (d : Int) : State :=
  if c then raiseSlot s k d else lowerSlot s k

/-! ### Action classes (R153, R154) -/

/-- The fixed floor of a slot (R153). -/
def floorOf (k : SlotId) : Nat :=
  match k.val with
  | 0 => 5
  | 1 => 3
  | 2 => 1
  | 16 | 17 | 18 | 19 | 20 | 21 => 1
  | 22 => 5
  | 54 => 3
  | 56 => 1
  | _ => 0

/-- The hold of a slot: fixed for 0 and 54, else from the action table, HOLD_ON_LIVE before its commit
(R153). -/
def holdOfSlot (s : State) (k : SlotId) : Hold :=
  if k = slotEstop then .untilRead
  else if k = slotLockout then .onLive
  else match activeAction s k with
    | some e => e.hold
    | none => .onLive

/-- The effective action of a slot: the greater of its class and its floor (R153). -/
def effectiveAction (s : State) (k : SlotId) : Nat :=
  max (floorOf k) (match activeAction s k with
    | some e => e.cls
    | none => 0)

/-- The mask of a slot; no before the action table's commit (R153). -/
def masked (s : State) (k : SlotId) : Bool :=
  match activeAction s k with
  | some e => e.mask
  | none => false

/-- A slot stands while it is live or, with HOLD_UNTIL_READ, while it is latched (R154). -/
def stands (s : State) (k : SlotId) : Bool :=
  match holdOfSlot s k with
  | .onLive => s.ilu.slots[k].live
  | .untilRead => s.ilu.slots[k].latched

def allSlots : List SlotId :=
  [0, 1, 2, 3, 4, 5, 6, 7, 8, 9, 10, 11, 12, 13, 14, 15, 16, 17, 18, 19, 20, 21, 22, 23, 24, 25, 26, 27,
    28, 29, 30, 31, 32, 33, 34, 35, 36, 37, 38, 39, 40, 41, 42, 43, 44, 45, 46, 47, 48, 49, 50, 51, 52, 53,
    54, 55, 56, 57, 58, 59, 60, 61, 62, 63]

/-- The standing action the slot table gives: the greatest effective action among the slots that
stand, or 0 (R154). -/
def standingOf (s : State) : Nat :=
  allSlots.foldl (fun a k => if stands s k then max a (effectiveAction s k) else a) 0

/-- The number of slots latched with mask no (R155). -/
def unmaskedLatched (s : State) : Nat :=
  allSlots.countP fun k => s.ilu.slots[k].latched && !masked s k

end Sys2Proof.Machine
end

