-- ==== Sys2Proof/Machine/Flux.lean ====
section
/-! DEFINITION. The Flux Unit (chapter 3): valves, open intervals, spray accounts, flux outcome,
inhibit and nozzle tests. -/

namespace Sys2Proof.Machine

/-! ### Supply pressure -/

/-- The minimum flux pressure in force; none before the nozzle table's commit (R54). -/
def minPressure (s : State) : Option Nat := s.tbs.nozzle.active.header.map fun h => h.minPress

/-- The condition that sets the pressure-doubt mark (R54): FLUX.PRESS is not VALID, or its latest value is
below the minimum in force. At an opening the latest value counts (DEDUCED, assumption 23). -/
def pressureDoubtful (s : State) : Bool :=
  let g := signal s sigFlux
  match g.state, g.value, minPressure s with
  | .valid, some v, some m => decide (v < m)
  | .valid, some _, none => false
  | _, _, _ => true

/-- The supply pressure is low (R60). While no entries are in force the condition never holds. -/
def pressureLow (s : State) : Bool :=
  match minPressure s with
  | none => false
  | some m =>
    match latest s sigFlux with
    | some v => decide (v < m)
    | none => true

/-! ### Opening and closing a valve (R53) -/

def updNozzle (s : State) (n : NozzleId) (f : Nozzle → Nozzle) : State :=
  { s with flx := { s.flx with nozzles := upd s.flx.nozzles n f } }

def getNozzle (s : State) (n : NozzleId) : Nozzle := s.flx.nozzles[n]

/-- A valve opens: an open interval starts with the flow rate and max open time in force. -/
def openValve (s : State) (n : NozzleId) (owner : ValveOwner) : State :=
  let x := getNozzle s n
  let iv : Interval :=
    { owner := owner
      openedAt := s.now
      rate := match x.inForce with
        | some e => e.flow
        | none => 0
      maxOpen := match s.tbs.nozzle.active.header with
        | some h => h.maxOpen
        | none => 0
      doubt := pressureDoubtful s }
  updNozzle s n fun x => { x with valve := some iv }

/-- The volume of an open interval closing now, in nl. -/
def intervalVolume (now : Time) (iv : Interval) : Nat := elapsed now iv.openedAt * iv.rate

/-- An interval's volume and doubt go to its owner's account (R53). -/
def Account.credit (now : Time) (iv : Interval) (a : Account) : Account :=
  if iv.owner = .board a.board then
    { a with volume := satAdd Config.max32 a.volume (intervalVolume now iv)
             uncertain := a.uncertain || iv.doubt }
  else a

/-- A valve closes (R53): its interval is accounted, a waiting entry comes into force (R43), and the vapour
dwell restarts (R61). An opening in the same event takes the entry then in force (DEDUCED, assumption 22). -/
def closeValve (s : State) (n : NozzleId) : State :=
  match (getNozzle s n).valve with
  | none => s
  | some iv =>
    let s := updNozzle s n fun x =>
      { x with valve := none
               inForce := match x.waiting with
                 | some e => some e
                 | none => x.inForce
               waiting := none }
    { s with flx := { s.flx with
        accounts := s.flx.accounts.map (Account.credit s.now iv)
        dwellFrom := some s.now } }

/-- Every valve that satisfies p closes, in nozzle order. -/
def closeValves (s : State) (p : Interval → Bool) : State :=
  allNozzles.foldl (fun s n =>
    match (getNozzle s n).valve with
    | some iv => if p iv then closeValve s n else s
    | none => s) s

/-! ### Nozzle test (R62, R63) -/

/-- A running test ends: its valve closes and the last-test record takes the result (R63). -/
def endTest (s : State) (cause : TestEnd) : State :=
  match s.flx.test with
  | none => s
  | some t =>
    match (getNozzle s t.nozzle).valve with
    | none => { s with flx := { s.flx with test := none } }
    | some iv =>
      let r : TestRecord :=
        { nozzle := t.nozzle
          requested := t.duration
          openFor := elapsed s.now iv.openedAt
          volume := min Config.max32 (intervalVolume s.now iv)
          doubt := iv.doubt
          cause := cause }
      let s := closeValve s t.nozzle
      { s with flx := { s.flx with test := none, lastTest := some r } }

/-! ### Spray accounts (R49, R50) -/

/-- The disposition at the opening of a spray window (R49). -/
def dispositionOf (s : State) (b : BoardRecord) : Disposition :=
  match boardRecipe s b with
  | none => .noMap
  | some r =>
    if r.fluxMap.isNone then .noMap
    else if b.flags.skipFlux then .skipped
    else if 2 ≤ s.ilu.standing then .skipped
    else .toSpray

/-- The opening of a spray window (R49). -/
def openSpray (s : State) (b : BoardRecord) : State :=
  { s with flx := { s.flx with
      accounts := s.flx.accounts ++ [⟨b.pIn, dispositionOf s b, 0, false⟩] } }

/-- The account of the board that entered at p. -/
def accountOf (s : State) (p : Pos) : Option Account := s.flx.accounts.find? fun a => a.board = p

/-- The flux outcome (R55). -/
def fluxOutcome (a : Account) (r : Option Recipe) : FluxOutcome :=
  match a.disposition with
  | .noMap => .none
  | .skipped => .skipped
  | .cut => .cutShort
  | .toSpray =>
    if a.uncertain then .uncertain
    else
      let t := ((r.bind fun r => r.fluxTarget).getD 0)
      let tol := ((r.bind fun r => r.fluxTol).getD 0)
      if a.volume < t * (100 - tol) / 100 then .low
      else if t * (100 + tol) / 100 < a.volume then .high
      else .ok

/-- LOW, HIGH and UNCERTAIN latch FLUX_OUT_OF_TOL (R55). -/
def FluxOutcome.alarms : FluxOutcome → Bool
  | .low | .high | .uncertain => true
  | .none | .skipped | .cutShort | .ok => false

/-- A TO_SPRAY account is made CUT (R56, R57). -/
def Account.cutOff (a : Account) : Account :=
  if a.disposition = .toSpray then { a with disposition := .cut } else a

/-- The accounts that satisfy p are cut. -/
def cutAccounts (s : State) (p : Account → Bool) : State :=
  { s with flx := { s.flx with
      accounts := s.flx.accounts.map fun a => if p a then a.cutOff else a } }

/-- The closing of a spray window (R50): the board's valves close, the outcome is judged, the flux
part is written and the account removed; LOW, HIGH or UNCERTAIN latches FLUX_OUT_OF_TOL. A PURGED
completion cuts a TO_SPRAY account first (R57). -/
def closeSpray (s : State) (b : BoardRecord) (purged : Bool) : State :=
  let s := if purged then cutAccounts s (fun a => a.board = b.pIn) else s
  let s := closeValves s fun iv => iv.owner = .board b.pIn
  match accountOf s b.pIn with
  | none => s
  | some a =>
    let out := fluxOutcome a (boardRecipe s b)
    let s := updBoard s b.pIn fun x => { x with data := { x.data with flux := some ⟨out, a.volume⟩ } }
    let s := { s with flx := { s.flx with
      accounts := s.flx.accounts.filter fun a => a.board ≠ b.pIn } }
    if out.alarms then latchSlot s slotFluxTol b.tag else s

/-! ### Valve re-evaluation (R51, R52) -/

/-- The board covers the evaluation point (R51). -/
def covers (s : State) (g : Geometry) (b : Board) : Bool :=
  b.isOpen .spray && decide (evalPoint g ≤ leading s b.data) &&
    (b.data.len.isNone || decide (trailing s b.data < evalPoint g))

/-- The covering board, if there is one (R51). -/
def coveringBoard (s : State) : Option Board :=
  match activeGeometry s with
  | none => none
  | some g => s.trk.queue.find? (covers s g)

/-- The current mask (R51). -/
def currentMask (s : State) : Byte :=
  match activeGeometry s, coveringBoard s with
  | some g, some b =>
    match accountOf s b.data.pIn, (boardRecipe s b.data).bind fun r => r.fluxMap.bind (activeMap s) with
    | some a, some m =>
      let seg := (leading s b.data - evalPoint g).toNat / m.segLen
      if a.disposition = .toSpray ∧ seg < m.segCount ∧ s.ilu.standing < 3 then m.masks.getD seg 0 else 0
    | _, _ => 0
  | _, _ => 0

/-- A nozzle is wanted (R52): in the current mask, enabled and not faulted. That bit n of the mask, bit 0 the least
significant, is the one that names nozzle n is the model's (DESIGN CHOICE, assumption 54). -/
def wanted (s : State) (n : NozzleId) : Bool :=
  (currentMask s).getLsbD n.val && !(getNozzle s n).faulted &&
    (match (getNozzle s n).inForce with
      | some e => e.enabled
      | none => false)

/-- An open valve stays open at a re-evaluation (R52): the test governs a test's valve, and a board's
valve stays while that board covers and the nozzle is wanted. -/
def keepsOpen (s : State) (n : NozzleId) (iv : Interval) : Bool :=
  match iv.owner with
  | .test => true
  | .board p => wanted s n && (match coveringBoard s with
    | some b => b.data.pIn = p
    | none => false)

/-- An open valve that does not stay open closes (R52). -/
def shutUnwanted (s : State) (n : NozzleId) : State :=
  match (getNozzle s n).valve with
  | some iv => if keepsOpen s n iv then s else closeValve s n
  | none => s

/-- A closed valve that is wanted opens for the covering board (R52). -/
def openWanted (s : State) (n : NozzleId) : State :=
  match (getNozzle s n).valve, coveringBoard s with
  | none, some b => if wanted s n then openValve s n (.board b.data.pIn) else s
  | _, _ => s

/-- The re-evaluation of one nozzle (R52). -/
def reevaluateNozzle (s : State) (n : NozzleId) : State := openWanted (shutUnwanted s n) n

/-- The re-evaluation of the valves, each nozzle in turn (R52). -/
def reevaluateValves (s : State) : State := allNozzles.foldl reevaluateNozzle s

/-- The pressure-doubt marks of the open intervals (R54). -/
def markDoubt (s : State) : State :=
  if pressureDoubtful s then
    { s with flx := { s.flx with nozzles := s.flx.nozzles.map fun x =>
        { x with valve := x.valve.map fun iv => { iv with doubt := true } } } }
  else s

/-! ### Inhibit (R56) -/

/-- The standing action rises to INHIBIT_FLUX_NOW or higher (R56): every open valve closes, a test
ends, and every TO_SPRAY account becomes CUT. -/
def inhibitNow (s : State) : State :=
  let s := endTest s .inhibit
  let s := closeValves s fun _ => true
  cutAccounts s fun _ => true

/-! ### Fluxing active (R61) -/

/-- The vapour dwell of hood F in ms; 0 before the extraction table's commit (R61). -/
def vapourDwell (s : State) : Nat :=
  match activeExtraction s hoodF with
  | some e => seconds (e.vapourDwell.getD 0)
  | none => 0

/-- The vapour dwell has run out, its duration read afresh (R61). -/
def dwellOver (s : State) : Bool :=
  match s.flx.dwellFrom with
  | some t => decide (vapourDwell s ≤ elapsed s.now t)
  | none => false

/-- A vapour dwell that has run out is expired. -/
def expireDwell (s : State) : State :=
  if dwellOver s then { s with flx := { s.flx with dwellFrom := none } } else s

/-- Fluxing active, judged (R61). -/
def judgeFluxing (s : State) : State :=
  { s with flx := { s.flx with
      fluxing := s.trk.queue.any (fun b => b.isOpen .spray) ||
        s.flx.nozzles.toList.any (fun x => x.valve.isSome) || s.flx.dwellFrom.isSome } }

/-- FLUX_PRESSURE_LOW, judged (R60): while at least one spray window is open and the supply is low;
the detail is the oldest such board's tag. -/
def judgePressure (s : State) : State :=
  match s.trk.queue.find? (fun b => b.isOpen .spray) with
  | some b => judgeSlot s slotFluxPressure (pressureLow s) b.data.tag
  | none => lowerSlot s slotFluxPressure

/-- The effect of a nozzle-table commit on the entries in force (R43). -/
def commitNozzles (s : State) : State :=
  { s with flx := { s.flx with nozzles := s.flx.nozzles.mapFinIdx fun i x h =>
      let e := s.tbs.nozzle.at ⟨i, h⟩
      if x.valve.isNone then { x with inForce := e, waiting := none } else { x with waiting := e } } }

end Sys2Proof.Machine
end

