-- ==== Sys2Proof/Machine/Firing.lean ====
section
/-! DEFINITION. The Firing Allocator (chapter 5): eligibility, firing credit, the half-cycle start and
phase timing. -/

namespace Sys2Proof.Machine

/-! ### Gates that stop (R94) -/

/-- The gate's active entry places it on the loop. -/
def gateOfLoop (s : State) (l : LoopId) (g : GateId) : Bool :=
  match activeGate s g with
  | some e => e.loop = some l
  | none => false

/-- The gates that satisfy p become IDLE with credit 0. -/
def idleGates (s : State) (p : GateId → Bool) : State :=
  { s with fal := { s.fal with
      gates := s.fal.gates.mapFinIdx fun i g h => if p ⟨i, h⟩ then ⟨0, false⟩ else g } }

/-- PERMIT became inactive: every gate IDLE, every credit 0 (R94). -/
def falStopAll (s : State) : State := idleGates s fun _ => true

/-- A loop left ACTIVE: its gates are IDLE with credit 0 (R94), its starve counter is 0 (R100) and
STARVED clears (R101). -/
def falStopLoop (s : State) (l : LoopId) : State :=
  let s := idleGates s (gateOfLoop s l)
  let s := { s with fal := { s.fal with starve := s.fal.starve.set l 0 } }
  lowerSlot s (slotStarved l)

/-! ### Phases -/

/-- PHASE_LOST of the phase is live. -/
def phaseLost (s : State) (p : PhaseId) : Bool := isLive s (slotPhaseLost p)

/-- Three nominal half periods in ms (R89, R91): 30 at 50 Hz, 25 at 60 Hz. -/
def lossTime (frequency : Nat) : Nat := 3000 / (2 * frequency)

/-- The machine time from which the loss of a phase is counted (R91). -/
def lossFrom (x : Phase) : Option Time :=
  match x.lastEdge with
  | some t => some t
  | none => x.committedAt

/-- The loss expiry of a phase is due: its entry is filled and three nominal half periods have
passed (R91). -/
def phaseLossDue (s : State) (p : PhaseId) : Bool :=
  let x := getPhase s p
  match activePhase s p, x.frequency, lossFrom x with
  | some _, some f, some t => decide (lossTime f ≤ elapsed s.now t) && !phaseLost s p
  | _, _, _ => false

/-- The gate's active entry places it on the phase. -/
def gateOnPhase (s : State) (p : PhaseId) (g : GateId) : Bool :=
  match activeGate s g with
  | some e => e.loop.isSome && e.phase = some p
  | none => false

/-- The gates on the phase become IDLE and keep their credits (R90 stage 2, R91). -/
def idlePhase (s : State) (p : PhaseId) : State :=
  { s with fal := { s.fal with
      gates := s.fal.gates.mapFinIdx fun i g h =>
        if gateOnPhase s p ⟨i, h⟩ then { g with firing := false } else g } }

/-- A gate is eligible (R93). -/
def eligible (s : State) (g : GateId) : Bool :=
  match activeGate s g with
  | some e =>
    (match e.loop, e.phase with
      | some l, some p => (getLoop s l).mode = .active && !phaseLost s p
      | _, _ => false) && e.enabled = some true && s.ilu.permit
  | none => false

/-- An edge of the phase is accepted (R89): its entry is filled and at least 4 ms have passed since
the last accepted edge, if there is one. -/
def edgeAccepted (s : State) (p : PhaseId) : Bool :=
  match activePhase s p with
  | none => false
  | some _ =>
    match (getPhase s p).lastEdge with
    | none => true
    | some t => decide (4 ≤ elapsed s.now t)

/-- The budget in force of a half-cycle starting now (R96): the lower of the table's budget and the
ceiling in force. With no limits in force nothing may be granted. -/
def budgetNow (s : State) (p : PhaseId) : Nat :=
  match activePhase s p, s.lst.limits with
  | some e, some x => min e.budget x.ceiling[p]
  | _, _ => 0

/-- The loop's demand as the gate's credit is paid (R95). -/
def demandOf (s : State) (g : GateId) : Nat :=
  match activeGate s g with
  | some e => (match e.loop with
    | some l => (getLoop s l).demand
    | none => 0)
  | none => 0

/-- Stage 4: the credits of the gates on the phase (R95). -/
def payCredits (s : State) (p : PhaseId) : State :=
  { s with fal := { s.fal with
      gates := s.fal.gates.mapFinIdx fun i g h =>
        if gateOnPhase s p ⟨i, h⟩ then
          (if eligible s ⟨i, h⟩ then { g with credit := min 2000 (g.credit + demandOf s ⟨i, h⟩) }
           else { g with credit := 0 })
        else g } }

/-- The gate is a candidate of the phase (R97). -/
def candidate (s : State) (p : PhaseId) (g : GateId) : Bool :=
  gateOnPhase s p g && eligible s g && decide (1000 ≤ s.fal.gates[g].credit)

/-- The priority class of a gate. -/
def classOfGate (s : State) (g : GateId) : Nat :=
  match activeGate s g with
  | some e => e.priority.getD 0
  | none => 0

/-- The load current of a gate. -/
def loadOf (s : State) (g : GateId) : Nat :=
  match activeGate s g with
  | some e => e.load.getD 0
  | none => 0

/-- The loop of a gate. -/
def loopOfGate (s : State) (g : GateId) : Option LoopId :=
  match activeGate s g with
  | some e => e.loop
  | none => none

/-- The gate numbers from n on, cyclically through 15 and round from 0 (R97). -/
def gatesFrom (n : GateId) : List GateId := allGates.rotate n.val

/-- The candidates of one class in the order of R97. -/
def classOrder (s : State) (p : PhaseId) (c : Fin 4) : List GateId :=
  (gatesFrom (getPhase s p).pointers[c]).filter fun g => candidate s p g && classOfGate s g = c.val

/-- All candidates in the order of R97. -/
def offerOrder (s : State) (p : PhaseId) : List GateId :=
  classOrder s p 0 ++ classOrder s p 1 ++ classOrder s p 2 ++ classOrder s p 3

/-- The result of the offers of one half-cycle: granted and denied gates in the order offered, and
what remains of the budget. -/
structure Offers where
  granted : List GateId
  denied : List GateId
  remaining : Nat
  deriving DecidableEq, Repr

/-- One offer: first fit (R98). -/
def offer (load : GateId → Nat) (o : Offers) (g : GateId) : Offers :=
  if load g ≤ o.remaining then
    { o with granted := o.granted ++ [g], remaining := o.remaining - load g }
  else { o with denied := o.denied ++ [g] }

/-- The offers of a half-cycle of a phase with a budget (R98). -/
def allocate (s : State) (p : PhaseId) (budget : Nat) : Offers :=
  (offerOrder s p).foldl (offer (loadOf s)) ⟨[], [], budget⟩

/-- Granted gates draw 1000 and become FIRING (R98, R90 stage 6). -/
def fireGates (s : State) (granted : List GateId) : State :=
  { s with fal := { s.fal with
      gates := s.fal.gates.mapFinIdx fun i g h =>
        if granted.contains ⟨i, h⟩ then ⟨g.credit - 1000, true⟩ else g } }

/-- The class pointers after the offers (R99). -/
def movePointers (s : State) (granted : List GateId) (ptr : Vector GateId 4) : Vector GateId 4 :=
  ptr.mapFinIdx fun c old _ =>
    match (granted.filter fun g => classOfGate s g = c).getLast? with
    | some g => g + 1
    | none => old

/-- Stage 7 for one loop (R100, R101): zeroed by a grant, counted by a denial, with STARVED raised
at 50 and cleared at 0. -/
def starveLoop (o : Offers) (s : State) (l : LoopId) : State :=
  if o.granted.any (fun g => loopOfGate s g = some l) then
    lowerSlot { s with fal := { s.fal with starve := s.fal.starve.set l 0 } } (slotStarved l)
  else
    match (o.denied.filter fun g => loopOfGate s g = some l).getLast? with
    | none => s
    | some g =>
      let n := satAdd 255 s.fal.starve[l] 1
      let s := { s with fal := { s.fal with starve := s.fal.starve.set l n } }
      if 50 ≤ n then raiseSlot s (slotStarved l) g.val else s

/-- Stages 2 to 8 of a half-cycle start (R90) on a phase whose edge was accepted. -/
def halfCycle (s : State) (p : PhaseId) : State :=
  let budget := budgetNow s p
  let s := idlePhase s p
  let s := updPhase s p fun x => { x with budget := some budget }
  let s := payCredits s p
  let o := allocate s p budget
  let s := fireGates s o.granted
  let s := updPhase s p fun x => { x with
    pointers := movePointers s o.granted x.pointers
    last := some ⟨s.now, budget, o.granted, budget - o.remaining, o.denied.length⟩ }
  allLoops.foldl (starveLoop o) s

/-- An accepted edge becomes the last accepted edge, and the period of the active entry is in use
from it on (R89, R92). -/
def acceptEdge (s : State) (p : PhaseId) : State :=
  updPhase s p fun x => { x with
    lastEdge := some s.now
    frequency := match activePhase s p with
      | some e => some e.frequency
      | none => x.frequency }

/-- The immediate effect of a phase-table commit on one phase (R92): a phase with no entry in force
before takes the new period at once and its loss timing from the commit. -/
def commitPhase (s : State) (p : PhaseId) : State :=
  updPhase s p fun x =>
    if x.frequency.isNone then
      { x with
        frequency := (activePhase s p).map fun e => e.frequency
        committedAt := some s.now }
    else x

/-- The immediate effect of a gate-table commit (R39, R104): class pointers and starve counters 0,
every STARVED cleared. -/
def commitGates (s : State) : State :=
  let s := { s with fal := { s.fal with
    phases := s.fal.phases.map fun x => { x with pointers := Vector.replicate 4 0 }
    starve := Vector.replicate 7 0 } }
  allLoops.foldl (fun s l => lowerSlot s (slotStarved l)) s

end Sys2Proof.Machine
end

