-- ==== Sys2Proof/Machine/Loops.lean ====
section
/-! DEFINITION. The Loop Unit (chapter 4): loop states, effective setpoints, the control law, band and
settling, and the per-board zone records. What loop P shares with the pot stands in Pot.lean. -/

namespace Sys2Proof.Machine

/-! ### Loop states (R67, R68) -/

def noCauses : Causes := ⟨false, false, false⟩

/-- What every leaving of ACTIVE does (R67): demand 0, runaway window abandoned, settle timer stopped,
in band and settled no. -/
def Loop.stopped (x : Loop) : Loop :=
  { x with demand := 0, window := none, inBand := false, settleFrom := none, settled := false }

/-- OFF → ACTIVE: the integral is kept and the demand stays 0 (R67). -/
def loopOn (s : State) (l : LoopId) : State :=
  updLoop s l fun x => { x with mode := .active, demand := 0 }

/-- To OFF (R67): from ACTIVE the integral is kept; from FAULT the causes are emptied and the integral
is 0, so that RUNAWAY clears (R83). An OFF loop is unchanged. -/
def loopOff (s : State) (l : LoopId) : State :=
  match (getLoop s l).mode with
  | .off => s
  | .active => falStopLoop (updLoop s l fun x => { x.stopped with mode := .off }) l
  | .fault =>
    lowerSlot (updLoop s l fun x => { x.stopped with mode := .off, causes := noCauses, integral := 0 })
      (slotRunaway l)

/-- The three causes of a loop fault (R66). -/
inductive Cause
  | sensorLost | overtemp | runaway
  deriving DecidableEq, Repr

/-- A set of causes with one added. -/
def Causes.add (c : Causes) : Cause → Causes
  | .sensorLost => { c with sensorLost := true }
  | .overtemp => { c with overtemp := true }
  | .runaway => { c with runaway := true }

/-- The loop's own part of a fault (R67): ACTIVE → FAULT with the cause; FAULT takes the cause; OFF is
unchanged. -/
def loopFaultOnly (s : State) (l : LoopId) (c : Cause) : State :=
  match (getLoop s l).mode with
  | .off => s
  | .active =>
    falStopLoop (updLoop s l fun x => { x.stopped with mode := .fault, causes := noCauses.add c }) l
  | .fault => updLoop s l fun x => { x with causes := x.causes.add c }

/-! ### Effective setpoints (R74 to R76) -/

/-- The controlling board of a zone (R74): the oldest whose zone window is open. -/
def controllingBoard (s : State) (k : ZoneId) : Option Board :=
  s.trk.queue.find? fun b => b.isOpen (.zone k)

/-- A recipe's own setpoint of a zone, the idle setpoint where it gives none, clamped (R86, R164).
Absent while the zone has no idle setpoint and the recipe gives none. -/
def ownSetpoint (s : State) (r : Option Recipe) (k : ZoneId) : Option Int :=
  let raw : Option Int := match r.bind fun r => r.zoneSp[k] with
    | some x => some x
    | none => (activeLoop s (zoneLoop k)).map LoopEntry.idle
  raw.map (clampSetpoint s (zoneLoop k))

/-- Effective setpoint, controlling board's tag and feed-forward of a zone (R75). While the loop table
has not been committed the setpoint is absent. -/
def composeZone (s : State) (k : ZoneId) : Option Int × Option Nat × Nat :=
  let b := controllingBoard s k
  let r := b.bind fun b => boardRecipe s b.data
  let sp := if (activeLoop s (zoneLoop k)).isSome then ownSetpoint s r k else none
  (sp, b.map fun b => b.data.tag, (r.bind fun r => r.zoneFf[k]).getD 0)

/-- The run setpoint of the pot table, clamped as R75 states. -/
def runSetpoint (s : State) : Option Int := (activePot s).map fun e => clampSetpoint s loopP e.runSp

/-- Effective setpoint of loop P (R75): the setback setpoint in SETBACK, else the run setpoint. -/
def composePot (s : State) : Option Int :=
  if s.pot.state = .setback then (activePot s).map fun e => clampSetpoint s loopP e.setbackSp
  else runSetpoint s

/-- The effective setpoint of one loop, composed again (R76): integral and demand are kept. -/
def compose (s : State) (l : LoopId) : State :=
  if h : l.val < 6 then
    let (sp, tag, ff) := composeZone s ⟨l.val, h⟩
    updLoop s l fun x => { x with setpoint := sp, controller := tag, ff := ff }
  else
    let sp := composePot s
    updLoop s l fun x => { x with setpoint := sp, controller := none, ff := 0 }

/-! ### Band and settling (R84, R85) -/

/-- The loop is in band (R84). -/
def inBandNow (s : State) (l : LoopId) : Bool :=
  let x := getLoop s l
  match x.mode, x.pv, x.setpoint, activeLoop s l with
  | .active, some pv, some sp, some e => decide (|pv - sp| ≤ e.band)
  | _, _, _, _ => false

/-- In band judged: entering it starts the settle timer, leaving it stops the timer and ends settled
(R85). -/
def judgeBand (s : State) (l : LoopId) : State :=
  let now := inBandNow s l
  updLoop s l fun x =>
    if now then (if x.inBand then x else { x with inBand := true, settleFrom := some s.now })
    else { x with inBand := false, settleFrom := none, settled := false }

/-- The settle timer has reached the settle time in the active loop table (R85). -/
def settleDue (s : State) (l : LoopId) : Bool :=
  match (getLoop s l).settleFrom, activeLoop s l with
  | some t, some e => decide (seconds e.settle ≤ elapsed s.now t)
  | _, _ => false

/-! ### The control law (R78) -/

/-- The proportional term floor(Kp × e / 16). -/
def proportional (e : LoopEntry) (err : Int) : Int := floorDiv (e.kp * err) 16

/-- New integral and demand from setpoint, PV, integral and feed-forward (R78). -/
def controlLaw (e : LoopEntry) (sp pv : Int) (integral ff : Nat) : Nat × Nat :=
  let err := clamp (-500) 500 (sp - pv)
  let p := proportional e err
  let cand : Int := integral + e.ki * err
  let u := p + floorDiv cand 256 + ff
  let held := (decide ((e.umax : Int) < u) && decide (0 < err)) || (decide (u < 0) && decide (err < 0))
  let i : Int := if held then integral else clamp 0 (e.umax * 256) cand
  let d := clamp 0 e.umax (p + floorDiv i 256 + ff)
  (i.toNat, d.toNat)

/-- Stage 4 of an evaluation (R77): the law, when the loop is ACTIVE and has an effective setpoint. -/
def applyLaw (s : State) (l : LoopId) : State :=
  let x := getLoop s l
  match x.mode, x.pv, x.setpoint, activeLoop s l with
  | .active, some pv, some sp, some e =>
    let r := controlLaw e sp pv x.integral x.ff
    updLoop s l fun x => { x with integral := r.1, demand := r.2 }
  | _, _, _, _ => s

/-- Stage 5 (R82): the runaway window starts at a demand of 900 or more and is abandoned below it. -/
def judgeWindow (s : State) (l : LoopId) : State :=
  updLoop s l fun x =>
    if x.mode = .active then
      (if 900 ≤ x.demand then
        (match x.window, x.pv with
          | none, some pv => { x with window := some ⟨s.now, pv⟩ }
          | _, _ => x)
      else { x with window := none })
    else x

/-- The runaway window has reached the window time in the active loop table (R83). -/
def runawayDue (s : State) (l : LoopId) : Bool :=
  match (getLoop s l).window, activeLoop s l with
  | some w, some e => decide (seconds e.runawayWindow ≤ elapsed s.now w.start)
  | _, _ => false

/-! ### Zone records (R86) -/

/-- A zone entry with one more sample (R86). -/
def ZoneEntry.add (e : Option ZoneEntry) (v : Int) (ok : Bool) : ZoneEntry :=
  match e with
  | none => ⟨v, v, ok⟩
  | some e => ⟨min e.pvMin v, max e.pvMax v, e.inBand && ok⟩

/-- The sample is in band for the board (R86). -/
def sampleInBand (s : State) (k : ZoneId) (b : BoardRecord) (v : Int) : Bool :=
  match ownSetpoint s (boardRecipe s b) k, activeLoop s (zoneLoop k) with
  | some sp, some e => (getLoop s (zoneLoop k)).mode = .active && decide (|v - sp| ≤ e.band)
  | _, _ => false

/-- The zone entry of one board takes the sample when the board is physically in the zone (R86). -/
def addSample (s : State) (g : Geometry) (k : ZoneId) (v : Int) (b : Board) : Board :=
  if spansStretch s b.data g.zones[k].start g.zones[k].stop then
    let ok := sampleInBand s k b.data v
    let p := upd b.data.preheat k fun e => some (ZoneEntry.add e v ok)
    { b with data := { b.data with preheat := p } }
  else b

/-- Stage 6 (R86): the zone entry of every board physically in the zone takes the sample. -/
def writeZoneRecords (s : State) (k : ZoneId) (v : Int) : State :=
  match activeGeometry s with
  | none => s
  | some g =>
    let q := s.trk.queue.map (addSample s g k v)
    { s with trk := { s.trk with queue := q } }

/-! ### Loop-table commit (R38) -/

/-- The immediate clamp of one loop: integral and demand within the new Umax; a demand that this
takes below 900 abandons the runaway window (R82). -/
def clampLoop (s : State) (l : LoopId) : State :=
  match activeLoop s l with
  | none => s
  | some e =>
    updLoop s l fun x =>
      let d := min x.demand e.umax
      { x with
        integral := min x.integral (e.umax * 256)
        demand := d
        window := if d < 900 ∧ 900 ≤ x.demand then none else x.window }

/-! ### Sensor alarms (R80) -/

/-- The signal id SENSOR_LOST names: the zone's own, 6 for P (R80). -/
def sensorDetail (l : LoopId) : Int := l.val

/-- SENSOR_LOST of a loop, judged (R80). -/
def judgeSensor (s : State) (l : LoopId) : State :=
  judgeSlot s (slotSensorLost l) ((getLoop s l).mode ≠ .off && loopSignalLost s l) (sensorDetail l)

end Sys2Proof.Machine
end

