-- ==== Sys2Proof/Machine/Pot.lean ====
section
/-! DEFINITION. The Pot Unit (chapter 6) and what loop P shares with it: pot states, setback and
recovery, wave pumps, contact, level and feeder, and the evaluation of loops. -/

namespace Sys2Proof.Machine

/-! ### The table of R72 -/

/-- The disagreement of two usable pot values (R72): before the pot table's commit any two disagree. -/
def disagree (s : State) (a b : Int) : Bool :=
  match activePot s with
  | some e => decide (e.disagree < |a - b|)
  | none => true

/-- What the table of R72 gives: the PV (kept, absent or a new value) and the thermocouple not used. -/
inductive PotPv
  | new (pv : Int) (unused : Option Int)
  | kept
  | absent
  deriving DecidableEq, Repr

/-- The table of R72 with the details of R73. -/
def potPv (s : State) : PotPv :=
  let a := (signal s sigPA).value.getD 0
  let b := (signal s sigPB).value.getD 0
  match classOf s sigPA, classOf s sigPB with
  | .usable, .usable =>
    if disagree s a b then
      .new (max a b) (some (if a < b then 6 else if b < a then 7 else if Config.tiedLowerIsB a then 7 else 6))
    else .new (floorDiv (a + b) 2) none
  | .usable, _ => .new a (some 7)
  | _, .usable => .new b (some 6)
  | .lost, .lost => .kept
  | _, _ => .absent

/-- The pot signals that form the PV with a thermocouple not used (R72, R73). -/
def sourceOf : Option Int → PvSource
  | none => .both
  | some d => if d = 6 then .pb else .pa

/-- The pot signal forms the standing PV of loop P. -/
def PvSource.uses (x : PvSource) (i : SignalId) : Bool :=
  match x with
  | .both => true
  | .pa => i = sigPA
  | .pb => i = sigPB
  | .none => false

/-- The loop's signal is HELD; for P, either pot signal in use is: those that form the standing PV (R83,
R87). -/
def loopHeld (s : State) (l : LoopId) : Bool :=
  if h : l.val < 6 then (signal s (zoneSignal ⟨l.val, h⟩)).state = .held
  else
    ((signal s sigPA).state = .held && s.lpu.potSource.uses sigPA) ||
      ((signal s sigPB).state = .held && s.lpu.potSource.uses sigPB)

/-! ### The feeder (section 6.6) -/

/-- The run time of a feeder that is on or in jog, in ms. -/
def feederRun (s : State) : Option Nat :=
  match s.pot.feeder with
  | .off => none
  | .on t => some (elapsed s.now t)
  | .jog t _ => some (elapsed s.now t)

/-- The feeder turns off, with the accounting of R128. A feeder that is off is unchanged. -/
def feederOff (s : State) : State :=
  match feederRun s with
  | none => s
  | some run =>
    let rate := match activePot s with
      | some e => e.feederRate
      | none => 0
    { s with pot := { s.pot with
        feeder := .off
        grams := satAdd Config.max32 s.pot.grams (rate * run / 1000) } }

/-- FEED.STATUS is VALID or HELD with the value 0 or 1 (R125). -/
def feedStatusGood (s : State) : Bool := latest s sigFeed = some 0 || latest s sigFeed = some 1

/-- HEATING, READY, SETBACK or RECOVERING (R125). -/
def PotState.heated : PotState → Bool
  | .heating | .ready | .setback | .recovering => true
  | .off | .fault => false

/-! ### Pot states (R107) -/

/-- The pot enters a state, with what every such entry does at once (R107, R109, R110). -/
def potEnter (s : State) (st : PotState) : State :=
  let s := { s with pot := { s.pot with state := st, pumpsStarted := false } }
  match st with
  | .off =>
    let s := feederOff s
    loopOff { s with pot := { s.pot with readyAt := none, idleFrom := none } } loopP
  | .ready => { s with pot := { s.pot with readyAt := some s.now, idleFrom := some s.now } }
  | .fault =>
    let s := feederOff s
    { s with pot := { s.pot with idleFrom := none } }
  | .heating | .setback | .recovering => s

/-- A loop fault with what follows from it (R67, R68): loop P leaving ACTIVE takes the pot to FAULT. -/
def loopFault (s : State) (l : LoopId) (c : Cause) : State :=
  let was := (getLoop s l).mode
  let s := loopFaultOnly s l c
  if l = loopP ∧ was = .active then potEnter s .fault else s

/-- pumps started, judged in RECOVERING at a PV of loop P (R114). -/
def judgePumpsStarted (s : State) : State :=
  match s.pot.state, (getLoop s loopP).pv, runSetpoint s, activePot s with
  | .recovering, some pv, some sp, some e =>
    if sp - e.startMargin ≤ pv then { s with pot := { s.pot with pumpsStarted := true } } else s
  | _, _, _, _ => s

/-- SETBACK → RECOVERING, and on to READY when loop P is settled at the entry (R113, R114). -/
def potRecover (s : State) : State :=
  let s := potEnter s .recovering
  let s := judgeBand (compose s loopP) loopP
  if (getLoop s loopP).settled then potEnter s .ready else judgePumpsStarted s

/-- A setback exit cause: it acts on a pot in SETBACK alone (R113). -/
def exitSetback (s : State) : State := if s.pot.state = .setback then potRecover s else s

/-- READY → SETBACK (R111, R112): the pot takes the setback setpoint. -/
def potSetback (s : State) : State := judgeBand (compose (potEnter s .setback) loopP) loopP

/-- The conditions that a POT_COMMAND SETBACK asks for (R112). -/
def setbackAllowed (s : State) : Bool :=
  s.pot.state = .ready && s.mdc.mode = .run && s.trk.queue.isEmpty && s.trk.ring.isEmpty

/-- The six conditions of an automatic setback (R111). -/
def setbackHolds (s : State) : Bool :=
  setbackAllowed s &&
    (match activePot s, s.pot.idleFrom with
      | some e, some t => decide (e.setbackDelay ≠ 0) &&
          decide (seconds e.setbackDelay ≤ elapsed s.now t)
      | _, _ => false)

/-- Automatic setback, judged (R111). -/
def judgeSetback (s : State) : State := if setbackHolds s then potSetback s else s

/-- Loop P became settled: HEATING and RECOVERING go to READY (R107). -/
def potSettled (s : State) : State :=
  if s.pot.state = .heating ∨ s.pot.state = .recovering then potEnter s .ready else s

/-- A settle timer that is due makes its loop settled (R85); loop P's tells POT. -/
def expireSettle (s : State) (l : LoopId) : State :=
  if settleDue s l then
    let s := updLoop s l fun x => { x with settleFrom := none, settled := true }
    if l = loopP then potSettled s else s
  else s

/-- A runaway window that is due is judged (R83): abandoned while held, FAULT on a short rise, else
restarted at the expiry's machine time and present PV. -/
def expireWindow (s : State) (l : LoopId) : State :=
  if runawayDue s l then
    match (getLoop s l).window, (getLoop s l).pv, activeLoop s l with
    | some w, some pv, some e =>
      if loopHeld s l then updLoop s l fun x => { x with window := none }
      else if pv - w.pvStart < e.runawayRise then
        raiseSlot (loopFault s l .runaway) (slotRunaway l) (pv - w.pvStart)
      else updLoop s l fun x => { x with window := some ⟨s.now, pv⟩ }
    | _, _, _ => s
  else s

/-! ### Wave pumps (section 6.3) -/

/-- A board spans the main wave location. -/
def waveSpanned (s : State) : Bool :=
  match activeGeometry s with
  | none => false
  | some g => s.trk.queue.any fun b => spans s b.data g.mainWave

/-- The main target before R116 (R115). -/
def mainBase (s : State) (e : PotEntry) : Nat :=
  match s.trk.queue.find? fun b => b.isOpen .boost with
  | none => e.mainNominal
  | some b =>
    match boardRecipe s b.data with
    | none => e.mainNominal
    | some r => r.contactSpeed

/-- The chip target before R116 (R115). -/
def chipBase (s : State) (e : PotEntry) : Nat :=
  if s.trk.queue.any (fun b => b.isOpen .chip &&
      (match boardRecipe s b.data with
        | some r => r.chipUse
        | none => false)) then e.chipNominal
  else e.chipIdle

/-- The cases of R116 in which both targets are 0. -/
def wavesWithdrawn (s : State) : Bool :=
  (match s.pot.state with
    | .ready => false
    | .recovering => !s.pot.pumpsStarted
    | .off | .heating | .setback | .fault => true) ||
    isLive s slotLevelLow || (decide (4 ≤ s.ilu.standing) && waveSpanned s)

/-- Wave drop is in force (R121). -/
def waveDrop (s : State) : Bool :=
  match s.pot.contact with
  | some c => c.waveDrop
  | none => false

/-- The target of a pump (R115, R116); 0 before the pot table's commit. -/
def pumpTarget (s : State) (p : Pump) : Nat :=
  match activePot s with
  | none => 0
  | some e =>
    if wavesWithdrawn s then 0
    else match p with
      | .chip => chipBase s e
      | .main => if waveDrop s then 0 else mainBase s e

/-- Both targets, judged again (R115). -/
def judgeTargets (s : State) : State :=
  { s with pot := { s.pot with
      chip := { s.pot.chip with target := pumpTarget s .chip }
      main := { s.pot.main with target := pumpTarget s .main } } }

/-- The fault condition of a pump (R118). -/
def pumpFaulty (s : State) (p : Pump) : Bool :=
  let x := getPump s p
  decide (s.pot.state ≠ .off) && decide (x.command = x.target) &&
    (match latest s (sigPump p), activePot s with
      | some v, some e => decide ((e.pumpTol : Int) < |v - x.command|)
      | some _, none => false
      | none, _ => true)

/-- The fault timer and the clearing of WAVE_PUMP_FAULT, judged (R118). -/
def judgePump (s : State) (p : Pump) : State :=
  let x := getPump s p
  if pumpFaulty s p then
    (match x.faultFrom with
      | some _ => s
      | none => setPump s p { x with faultFrom := some s.now })
  else lowerSlot (setPump s p { x with faultFrom := none }) (slotPumpFault p)

/-- The ramp step for the time since the last frame, capped at 100 ms, and 100 ms where there is none
(R117). -/
def rampStep (s : State) (ramp : Nat) : Nat :=
  let dt := match s.pot.lastFrame with
    | some t => min 100 (elapsed s.now t)
    | none => 100
  max 1 (ramp * dt / 1000)

/-- A command one step nearer its target (R117). -/
def PumpState.ramp (step : Nat) (x : PumpState) : PumpState :=
  if x.command < x.target then { x with command := min x.target (x.command + step) }
  else { x with command := max x.target (x.command - step) }

/-- Stage 2 of a good frame (R117). -/
def rampPumps (s : State) : State :=
  let s := match activePot s with
    | none => s
    | some e =>
      let step := rampStep s e.ramp
      { s with pot := { s.pot with chip := s.pot.chip.ramp step, main := s.pot.main.ramp step } }
  { s with pot := { s.pot with lastFrame := some s.now } }

/-! ### Contact with the main wave (section 6.4) -/

/-- The wave part of a board changed. -/
def updWave (s : State) (p : Pos) (f : WavePart → WavePart) : State :=
  updBoard s p fun b => { b with data := { b.data with wave := b.data.wave.map f } }

/-- WAVE_NOT_READY, judged in the running interval (R120): at the start the pot state, and at every PV
the recipe's contact pot band. It latches once. -/
def judgeContact (s : State) (start : Bool) : State :=
  match s.pot.contact with
  | none => s
  | some c =>
    let bad := (start && decide (s.pot.state ≠ .ready)) ||
      (match (findBoard s c.board).bind fun b => boardRecipe s b.data, (getLoop s loopP).pv with
        | some r, some pv => decide (pv < r.bandMin) || decide (r.bandMax < pv)
        | _, _ => false)
    if bad && !c.reported then
      latchSlot { s with pot := { s.pot with contact := some { c with reported := true } } }
        slotWaveNotReady c.tag
    else s

/-- The contact interval of a board begins (R119). -/
def contactStart (s : State) (b : BoardRecord) : State :=
  let pv := (getLoop s loopP).pv
  let w : WavePart := ⟨s.pot.state, pv, pv, none, false⟩
  let s := updBoard s b.pIn fun x => { x with data := { x.data with wave := some w }, contactBegun := true }
  judgeContact { s with pot := { s.pot with contact := some ⟨b.pIn, b.tag, s.now, false, false⟩ } } true

/-- The contact end (R119): the duration is recorded, wave drop ends, and the idle reference time is set
(R111). -/
def contactEnd (s : State) : State :=
  match s.pot.contact with
  | none => s
  | some c =>
    let s := updWave s c.board fun w => { w with duration := some (elapsed s.now c.start) }
    { s with pot := { s.pot with contact := none, idleFrom := some s.now } }

/-- The running interval ends when its board's trailing location is greater than the main wave
location (R119). -/
def judgeContactEnd (s : State) : State :=
  match s.pot.contact, activeGeometry s with
  | some c, some g =>
    match findBoard s c.board with
    | some b => if (g.mainWave : Int) < trailing s b.data then contactEnd s else s
    | none => s
  | _, _ => s

/-- An interval begins for the oldest board that spans the main wave location and has had none, while
none runs (R119). -/
def judgeContactStart (s : State) : State :=
  match s.pot.contact, activeGeometry s with
  | none, some g =>
    match s.trk.queue.find? fun b => spans s b.data g.mainWave && !b.contactBegun with
    | some b => contactStart s b.data
    | none => s
  | _, _ => s

/-- The dwell has expired (R121): the max dwell is read afresh, and an interval expires once. -/
def dwellDue (s : State) : Bool :=
  match s.pot.contact, activePot s with
  | some c, some e => !c.waveDrop && decide (seconds e.maxDwell ≤ elapsed s.now c.start)
  | _, _ => false

/-- A dwell that has expired latches WAVE_DWELL, marks the wave part and puts wave drop in force
(R121). -/
def expireContactDwell (s : State) : State :=
  if dwellDue s then
    match s.pot.contact with
    | none => s
    | some c =>
      let s := updWave s c.board fun w => { w with dwellExceeded := true }
      latchSlot { s with pot := { s.pot with contact := some { c with waveDrop := true } } }
        slotWaveDwell c.tag
  else s

/-! ### Level and feeding (sections 6.5, 6.6) -/

/-- The drawdown offset between two breakpoints (R122). -/
def interpolate (a b : Breakpoint) (s : Nat) : Int :=
  a.offset + floorDiv ((b.offset - a.offset) * ((s : Int) - a.speed)) ((b.speed : Int) - a.speed)

/-- The drawdown offset for a main command (R122). -/
def levelOffset (bp : Vector Breakpoint 4) (s : Nat) : Int :=
  if s ≤ bp[0].speed then bp[0].offset
  else if s < bp[1].speed then interpolate bp[0] bp[1] s
  else if s < bp[2].speed then interpolate bp[1] bp[2] s
  else if s < bp[3].speed then interpolate bp[2] bp[3] s
  else bp[3].offset

/-- The feeder after a valid level sample (R125, R130). -/
def feedBySample (s : State) (e : PotEntry) (level : Int) : State :=
  if decide (e.feedOff ≤ level) && (feederRun s).isSome then
    let s := feederOff s
    { s with pot := { s.pot with feedOnCount := 0 } }
  else
    match s.pot.feeder with
    | .jog _ _ => { s with pot := { s.pot with feedOnCount := 0 } }
    | f =>
      if level ≤ e.feedOn then
        let n := min 3 (s.pot.feedOnCount + 1)
        if n = 3 ∧ f = .off ∧ s.pot.feederEnabled = true ∧ s.pot.state.heated = true ∧
            feedStatusGood s = true then
          { s with pot := { s.pot with feeder := .on s.now, feedOnCount := 0 } }
        else { s with pot := { s.pot with feedOnCount := n } }
      else { s with pot := { s.pot with feedOnCount := 0 } }

/-- A fresh POT.PROBE sample (R122 to R125): valid, it sets the level, judges the level alarms and the
feeder; otherwise it is discarded (R123). -/
def levelSample (s : State) (probe : Int) : State :=
  match activePot s with
  | none => s
  | some e =>
    if waveSpanned s then s
    else if s.pot.main.command ≠ s.pot.main.target then s
    else
      let level := e.levelRef - probe - levelOffset e.breakpoints s.pot.main.command
      let s := { s with pot := { s.pot with level := some level } }
      let s := judgeSlot s slotLevelLow (decide (level ≤ e.lowLow)) level
      let s := judgeSlot s slotLevelHigh (decide (e.highHigh ≤ level)) level
      feedBySample s e level

/-- The max run has been reached (R127), read afresh. -/
def maxRunDue (s : State) : Bool :=
  match feederRun s, activePot s with
  | some run, some e => decide (seconds e.feederMaxRun ≤ run)
  | _, _ => false

/-- A run that has reached the max run turns the feeder off, disables it and latches FEEDER_TIMEOUT
with the run time (R127). -/
def expireMaxRun (s : State) : State :=
  if maxRunDue s then
    match feederRun s with
    | none => s
    | some run =>
      let s := feederOff s
      latchSlot { s with pot := { s.pot with feederEnabled := false } } slotFeederTimeout run
  else s

/-- A jog has reached its requested duration (R130). -/
def jogDue (s : State) : Bool :=
  match s.pot.feeder with
  | .jog t d => decide (d ≤ elapsed s.now t)
  | .on _ => false
  | .off => false

/-- A jog ends (R130). -/
def endJog (s : State) : State :=
  match s.pot.feeder with
  | .jog _ _ => feederOff s
  | .on _ => s
  | .off => s

/-! ### PV of loop P (R72, R73) -/

/-- OVERTEMP of a loop judged on its PV (R81, R67): above the hard maximum it is live and the loop takes the
fault, at or below it it is not, nor while the PV is absent (DEDUCED, assumption 16). That each judgement above
the hard maximum faults an ACTIVE loop, a live OVERTEMP found or not, is DEDUCED (assumption 31). -/
def judgeOvertemp (s : State) (l : LoopId) : State :=
  match (getLoop s l).pv, hardMax s l with
  | some pv, some m =>
    if m < pv then loopFault (raiseSlot s (slotOvertemp l) pv) l .overtemp
    else lowerSlot s (slotOvertemp l)
  | some _, none => s
  | none, _ => lowerSlot s (slotOvertemp l)

/-- The PV of loop P and the signals that form it put. -/
def putPotPv (s : State) (pv : Option Int) (src : PvSource) : State :=
  let s := updLoop s loopP fun x => { x with pv := pv }
  { s with lpu := { s.lpu with potSource := src } }

/-- The PV of loop P formed again, with POT_TC_DEGRADED judged (R72, R73). While it is live its detail
follows the thermocouple not used (DEDUCED, assumption 44). A PV that becomes absent ends OVERTEMP (DEDUCED,
assumption 16). -/
def formPotPv (s : State) : State :=
  match potPv s with
  | .new pv unused =>
    let s := putPotPv s (some pv) (sourceOf unused)
    (match unused with
      | some d => raiseSlotAnew s slotPotDegraded d
      | none => lowerSlot s slotPotDegraded)
  | .kept => lowerSlot (putPotPv s (getLoop s loopP).pv .none) slotPotDegraded
  | .absent => lowerSlot (judgeOvertemp (putPotPv s none .none) loopP) slotPotDegraded

/-- The wave part's PV minimum and maximum take a new PV (R119). A part begun without a PV takes the
first (DEDUCED, assumption 18). -/
def WavePart.see (pv : Int) (w : WavePart) : WavePart :=
  { w with
    pvMin := some (match w.pvMin with
      | some x => min x pv
      | none => pv)
    pvMax := some (match w.pvMax with
      | some x => max x pv
      | none => pv) }

/-- POT's part of a new PV of P: pumps started (R114), contact records (R119) and contact band
(R120). -/
def potNewPv (s : State) (pv : Int) : State :=
  let s := judgePumpsStarted s
  match s.pot.contact with
  | none => s
  | some c => judgeContact (updWave s c.board (WavePart.see pv)) false

/-- Stages 2 to 5 of an evaluation (R77) on a PV that has been updated. -/
def evaluate (s : State) (l : LoopId) : State :=
  let s := judgeOvertemp s l
  let s := judgeBand s l
  judgeWindow (applyLaw s l) l

/-- A fresh sample of a zone thermocouple (R77). -/
def zoneSample (s : State) (k : ZoneId) (v : Int) : State :=
  let s := updLoop s (zoneLoop k) fun x => { x with pv := some v }
  writeZoneRecords (evaluate s (zoneLoop k)) k v

/-- A fresh sample of a pot thermocouple (R77, R72). Two fresh signals of one frame are two samples,
TEMP.PA's first (DESIGN CHOICE, assumption 36). -/
def potSample (s : State) : State :=
  let s := formPotPv s
  match potPv s with
  | .new pv _ => potNewPv (evaluate s loopP) pv
  | .kept => s
  | .absent => s

/-- A change of class of a pot thermocouple without a fresh sample (R72, R79): the PV is formed again
and judged, and the loss of both faults the loop. Where the PV becomes absent, one signal lost and the other
still awaited, an ACTIVE loop keeps demand, integral and runaway window, since R72 says of it only that the PV is
absent (DESIGN CHOICE, assumption 49). -/
def potClassChange (s : State) : State :=
  let s := formPotPv s
  let s := match potPv s with
    | .new pv _ => potNewPv (judgeBand (judgeOvertemp s loopP) loopP) pv
    | .kept => s
    | .absent => judgeBand s loopP
  if loopSignalLost s loopP then loopFault s loopP .sensorLost else s

/-- A zone thermocouple became lost (R79). -/
def zoneLost (s : State) (k : ZoneId) : State := loopFault s (zoneLoop k) .sensorLost

end Sys2Proof.Machine
end

