-- ==== Sys2Proof/Machine/Limits.lean ====
section
/-! DEFINITION. The Limits Store (chapter 11): judging the block, handing on the limits in force, and
filter-hour saves. -/

namespace Sys2Proof.Machine

/-- The conservative limits (R194). -/
def conservative : Limits where
  hardMax := Vector.replicate 7 3000
  ceiling := Vector.replicate 3 0
  lockoutMin := 10
  service := none

/-- The limits a valid block puts in force (R194). -/
def limitsOf (b : Block) : Limits := ⟨b.hardMax, b.ceiling, b.lockoutMin, some b.service⟩

/-- Checking a storage content (R194): the block when it is valid, else the detail, 1 for a CRC mismatch
and 2 for a field out of range. -/
def checkStorage (l : List Byte) : Block ⊕ Nat :=
  match readBlock l with
  | none => .inr 1
  | some b => if b.inRange then .inl b else .inr 2

/-- The write count of the block in storage (R195); a content that is no block has a free one. -/
def writeCountOf (l : List Byte) : Nat :=
  match readBlock l with
  | some b => b.writeCount
  | none => (Config.writeCountOfNoBlock l).toNat

/-- A valid block comes into force: LIMITS_INVALID clears (R194, R195). -/
def acceptBlock (s : State) (b : Block) : State :=
  lowerSlot { s with lst := { s.lst with block := some b, limits := some (limitsOf b), detail := 0 } }
    slotLimitsInvalid

/-- An invalid block: the conservative limits come into force and LIMITS_INVALID is live with the detail
(R194, R195). The detail is taken anew at each such check (DEDUCED, assumption 26). -/
def rejectBlock (s : State) (detail : Nat) : State :=
  raiseSlotAnew { s with lst := { s.lst with block := none, limits := some conservative, detail := detail } }
    slotLimitsInvalid detail

/-- A block with some filter hours replaced (R196). -/
def Block.withHours (b : Block) (w : Vector (Option Nat) 2) : Block :=
  { b with hours := b.hours.zipWith (fun h o => o.getD h) w }

/-- A SAVE starts, carrying the given counts (R196). -/
def startSave (s : State) (b : Block) (w : Vector (Option Nat) 2) : State :=
  { s with lst := { s.lst with op := some (.save s.now (b.withHours w)) } }

/-- The waiting save of a hood put (R196: at most one for each hood). -/
def putWaiting (s : State) (h : HoodId) (o : Option Nat) : State :=
  { s with lst := { s.lst with waiting := s.lst.waiting.set h o } }

/-- A filter-hour save is handed to the Limits Store (R196): dropped under the conservative limits, waiting
behind an operation in flight, else started at once; either way it replaces the save of that hood still
waiting. During the start-up read it waits (DEDUCED, assumption 24). -/
def handSave (s : State) (h : HoodId) (count : Nat) : State :=
  if s.lst.limits.isSome && s.lst.block.isNone then s
  else
    match s.lst.op, s.lst.block with
    | none, some b =>
      startSave (putWaiting s h none) b ((Vector.replicate 2 none).set h (some count))
    | _, _ => putWaiting s h (some count)

/-- The waiting saves after a completion (R196): one SAVE with every waiting count when the read-back is
valid, and none waits afterwards. -/
def startWaiting (s : State) : State :=
  let w := s.lst.waiting
  let s := { s with lst := { s.lst with waiting := Vector.replicate 2 none } }
  match s.lst.block with
  | none => s
  | some b => if w.toList.any Option.isSome then startSave s b w else s

/-- Every loop's OVERTEMP judged against the limits in force (R81). -/
def judgeAllOvertemp (s : State) : State := allLoops.foldl judgeOvertemp s

end Sys2Proof.Machine
end

