-- ==== Sys2Proof/Machine/Extraction.lean ====
section
/-! DEFINITION. The Extraction Unit (chapter 7): airflow, requirement levels, grace and debounce, the
lockout, filters, fans and filter hours. -/

namespace Sys2Proof.Machine

/-! ### Airflow (R133) -/

/-- The airflow of a duct pressure sample. -/
def airflowOf (kf : Nat) (dp : Int) : Nat := min 65535 (kf * isqrt dp.toNat / 64)

/-- A fresh duct pressure sample (R133): while the extraction table is not committed, none is computed. -/
def ductSample (s : State) (h : HoodId) (v : Int) : State :=
  match activeExtraction s h with
  | none => s
  | some e => updHood s h fun x => { x with airflow := some (airflowOf e.kf v) }

/-- The duct pressure signal became LOST or ABSENT: the airflow is UNKNOWN (R133). -/
def ductLost (s : State) (h : HoodId) : State := updHood s h fun x => { x with airflow := none }

/-! ### Requirement levels (R134 to R136) -/

/-- The requirement level of a hood (R134, R135). -/
def levelOf (s : State) (h : HoodId) : HoodLevel :=
  if h = hoodF then
    if s.flx.fluxing then .full else if s.mdc.mode = .run then .reduced else .least
  else
    match (getLoop s loopP).pv, activeExtraction s hoodP with
    | some pv, some e =>
      match e.hotThreshold with
      | some t =>
        if pv < t ∧ (classOf s sigPA = .usable ∨ classOf s sigPB = .usable) then .least else .full
      | none => .full
    | _, _ => .full

/-- The requirement an entry gives for a level. -/
def reqAt (e : ExtractionEntry) : HoodLevel → Nat
  | .full => e.reqFull
  | .reduced => e.reqReduced.getD 0
  | .least => e.reqLeast

/-- The fan speed an entry gives for a level. -/
def fanAt (e : ExtractionEntry) : HoodLevel → Nat
  | .full => e.fanFull
  | .reduced => e.fanReduced.getD 0
  | .least => e.fanLeast

/-- Level, requirement and fan command set again (R136); a rise of either value starts the grace timer
(R137). -/
def setRequirement (s : State) (h : HoodId) : State :=
  let lvl := levelOf s h
  match activeExtraction s h with
  | none => updHood s h fun x => { x with level := lvl, requirement := none, fan := 0 }
  | some e =>
    updHood s h fun x =>
      let rise := x.requirement.getD 0 < reqAt e lvl ∨ x.fan < fanAt e lvl
      { x with
        level := lvl
        requirement := some (reqAt e lvl)
        fan := fanAt e lvl
        graceFrom := if rise then some s.now else x.graceFrom }

/-! ### Grace, debounce and lockout (R137 to R139) -/

/-- The airflow is low (R138): below the requirement, UNKNOWN counted as 0. -/
def Hood.low (x : Hood) : Bool :=
  match x.requirement with
  | some r => decide (x.airflow.getD 0 < r)
  | none => false

/-- The debounce timer toward a state: started unless already running toward it (R138). -/
def Hood.timeToward (now : Time) (low : Bool) (x : Hood) : Hood :=
  match x.debounce with
  | some d => if d.towardLow = low then x else { x with debounce := some ⟨now, low⟩ }
  | none => { x with debounce := some ⟨now, low⟩ }

/-- The judgement of a hood's airflow acting on its debounce timer: the table of R138. -/
def judgeAirflow (s : State) (h : HoodId) : State :=
  let live := isLive s (slotExtractLow h)
  updHood s h fun x =>
    if x.requirement.isNone then x
    else if live then (if x.low then { x with debounce := none } else x.timeToward s.now false)
    else if x.low && x.graceFrom.isNone then x.timeToward s.now true
    else { x with debounce := none }

/-- The grace timer has reached the grace of the active table (R137), read afresh. -/
def graceDue (s : State) (h : HoodId) : Bool :=
  match (getHood s h).graceFrom, activeExtraction s h with
  | some t, some e => decide (seconds e.grace ≤ elapsed s.now t)
  | _, _ => false

/-- A grace timer that is due expires; the airflow is judged at once (R137). -/
def expireGrace (s : State) (h : HoodId) : State :=
  if graceDue s h then judgeAirflow (updHood s h fun x => { x with graceFrom := none }) h else s

/-- The debounce timer has reached the debounce of the active table (R138), read afresh. -/
def debounceDue (s : State) (h : HoodId) : Bool :=
  match (getHood s h).debounce, activeExtraction s h with
  | some d, some e => decide (seconds e.debounce ≤ elapsed s.now d.start)
  | _, _ => false

/-- A debounce timer that is due expires (R138): EXTRACT_LOW becomes live and the lockout timer starts,
or it clears and the lockout timer stops (R139). -/
def expireDebounce (s : State) (h : HoodId) : State :=
  if debounceDue s h then
    match (getHood s h).debounce with
    | none => s
    | some d =>
      let air := (getHood s h).airflow.getD 0
      if d.towardLow then
        raiseSlot (updHood s h fun x => { x with debounce := none, lockoutFrom := some s.now })
          (slotExtractLow h) air
      else
        lowerSlot (updHood s h fun x => { x with debounce := none, lockoutFrom := none })
          (slotExtractLow h)
  else s

/-- The lockout time in force in ms (R139): the greater of the table's and the minimum in force. -/
def lockoutTime (s : State) (e : ExtractionEntry) : Nat :=
  seconds (max e.lockout (match s.lst.limits with
    | some x => x.lockoutMin
    | none => 0))

/-- The lockout timer has reached the lockout time in force (R139), read afresh. -/
def lockoutDue (s : State) (h : HoodId) : Bool :=
  match (getHood s h).lockoutFrom, activeExtraction s h with
  | some t, some e => decide (lockoutTime s e ≤ elapsed s.now t)
  | _, _ => false

/-- A lockout timer that is due expires (R139): a clear FUME_LOCKOUT flag is set with the hood, and slot
54 becomes live (R140). -/
def expireLockout (s : State) (h : HoodId) : State :=
  if lockoutDue s h then
    let s := updHood s h fun x => { x with lockoutFrom := none }
    match s.exu.lockout with
    | some _ => s
    | none => raiseSlot { s with exu := { s.exu with lockout := some h } } slotLockout h.val
  else s

/-! ### Filters (R142) -/

/-- Both filter alarms judged against a drop (R142). -/
def judgeFilter (s : State) (h : HoodId) (drop : Int) : State :=
  match activeExtraction s h with
  | none => s
  | some e =>
    let s := judgeSlot s (slotFilterLoaded h) (decide ((e.warnDrop : Int) ≤ drop)) drop
    judgeSlot s (slotFilterBlocked h) (decide ((e.maxDrop : Int) ≤ drop)) drop

/-- The filter pressure signal became LOST or ABSENT: both clear (R142). -/
def filterLost (s : State) (h : HoodId) : State :=
  lowerSlot (lowerSlot s (slotFilterLoaded h)) (slotFilterBlocked h)

/-! ### Fans (R143) -/

/-- Whether a fan runs, is stopped, or is not supervised (R143). -/
inductive FanState
  | running | stopped | unsupervised
  deriving DecidableEq, Repr

/-- The fan state of a hood (R143). -/
def fanState (s : State) (h : HoodId) : FanState :=
  match latest s (sigFan h) with
  | some v => if v < 50 then .stopped else .running
  | none => if mapped s (sigFan h) then .stopped else .unsupervised

/-- FAN_NOT_RUNNING of a hood, judged (R143); not before the extraction table's commit (R136). -/
def judgeFan (s : State) (h : HoodId) : State :=
  let x := getHood s h
  judgeSlot s (slotFanStopped h)
    ((activeExtraction s h).isSome && decide (0 < x.fan) && fanState s h = .stopped && x.graceFrom.isNone)
    ((latest s (sigFan h)).getD 0)

/-! ### Filter hours (R144 to R147) -/

/-- The filter is counting (R144). -/
def countingNow (s : State) (h : HoodId) : Bool :=
  decide (0 < (getHood s h).fan) && fanState s h ≠ .stopped

/-- One tenth of an hour more (R144); a whole hour is handed to the Limits Store (R145). -/
def addTenth (s : State) (h : HoodId) : State :=
  let n := satAdd Config.max32 (getHood s h).hours 1
  let grew := decide (n ≠ (getHood s h).hours)
  let s := updHood s h fun x => { x with hours := n }
  if grew && n % 10 = 0 then handSave s h n else s

/-- The time run since running since goes to the run accumulator; each 360,000 ms becomes a tenth
(R144). -/
def accrue (s : State) (h : HoodId) : State :=
  let x := getHood s h
  match x.runningSince with
  | none => s
  | some t =>
    let total := x.accumulator + elapsed s.now t
    let s := updHood s h fun x => { x with accumulator := total % Config.tenthHour, runningSince := some s.now }
    Nat.repeat (fun s => addTenth s h) (total / Config.tenthHour) s

/-- Counting judged (R144): its start records running since, its end accounts the time run. -/
def judgeCounting (s : State) (h : HoodId) : State :=
  match countingNow s h, (getHood s h).runningSince with
  | true, none => updHood s h fun x => { x with runningSince := some s.now }
  | false, some _ =>
    let s := accrue s h
    updHood s h fun x => { x with runningSince := none }
  | _, _ => s

/-- 360,000 ms of counting have accumulated (R144). -/
def tenthDue (s : State) (h : HoodId) : Bool :=
  match (getHood s h).runningSince with
  | some t => decide (Config.tenthHour ≤ (getHood s h).accumulator + elapsed s.now t)
  | none => false

/-- The filter of a hood is due for service (R146). -/
def serviceDue (s : State) (h : HoodId) : Bool :=
  match s.lst.limits with
  | some x => (match x.service with
    | some v => decide (10 * v[h] ≤ (getHood s h).hours)
    | none => false)
  | none => false

/-- FILTER_SERVICE_DUE, judged (R146), with the extraction table committed or not (DEDUCED, assumption 43). -/
def judgeService (s : State) : State :=
  judgeSlot s slotServiceDue (serviceDue s hoodF || serviceDue s hoodP) (if serviceDue s hoodF then 0 else 1)

/-- A hood judged at an event: requirement, airflow, fan, counting. -/
def judgeHood (s : State) (h : HoodId) : State :=
  let s := setRequirement s h
  let s := judgeAirflow s h
  let s := judgeFan s h
  judgeCounting s h

/-- The immediate effects of an extraction-table commit on a hood (R45, R142): running timers are judged
against the new durations, the filter alarms against the latest sample. -/
def commitHood (s : State) (h : HoodId) : State :=
  let s := setRequirement s h
  let s := expireGrace s h
  let s := judgeAirflow s h
  let s := expireDebounce s h
  let s := expireLockout s h
  match latest s (sigFilter h) with
  | some v => judgeFilter s h v
  | none => s

end Sys2Proof.Machine
end

