-- ==== Sys2Proof/Machine/Interlock.lean ====
section
/-! DEFINITION. The Interlock Unit (chapter 8): the standing action and what it is passed on to, PERMIT,
conveyor run, beacons, the next board and the entry permit; and `settle`, in which every condition that
the chapters judge at the events changing it is judged once an event has had its effect. -/

namespace Sys2Proof.Machine

/-! ### Outputs (R155 to R159) -/

/-- PERMIT's three conditions (R158). -/
def permitHolds (s : State) : Bool :=
  decide (s.mdc.mode ≠ .starting) && !s.lines.estop && decide (s.ilu.standing < 5)

/-- PERMIT judged (R158); becoming inactive it stops every gate (R94). -/
def judgePermit (s : State) : State :=
  let p := permitHolds s
  let was := s.ilu.permit
  let s := { s with ilu := { s.ilu with permit := p } }
  if was && !p then falStopAll s else s

/-- Conveyor run, notice and beacons judged (R155, R157, R159). -/
def judgeOutputs (s : State) : State :=
  let n := decide (0 < unmaskedLatched s)
  { s with ilu := { s.ilu with
      convRun := decide (s.mdc.mode = .run) && decide (s.ilu.standing < 4)
      notice := n
      bcnA := n
      bcnR := decide (4 ≤ s.ilu.standing) || s.exu.lockout.isSome } }

/-! ### CONVEYOR_SPEED (R165) -/

/-- The speed lies outside a recipe's range. -/
def speedOutside (v : Int) (r : Recipe) : Bool := decide (v < r.speedMin) || decide (r.speedMax < v)

/-- The oldest record whose recipe's range excludes the speed (R165). -/
def speedOffender (s : State) : Option Board :=
  s.trk.queue.find? fun b =>
    match boardRecipe s b.data with
    | some r => speedOutside s.trk.speed r
    | none => false

/-- CONVEYOR_SPEED, judged (R165). -/
def judgeSpeed (s : State) : State :=
  match speedOffender s with
  | some b => judgeSlot s slotSpeed (decide (s.mdc.mode = .run) && decide (s.ilu.standing < 4)) b.data.tag
  | none => lowerSlot s slotSpeed

/-! ### The entry permit (R160 to R164) -/

/-- A recipe index of the header, when it is one. -/
def recipeIndex (n : Nat) : Option RecipeId := if h : n < 16 then some ⟨n, h⟩ else none

/-- The next board (R160). -/
def nextBoardOf (s : State) : Option NextBoard :=
  match s.trk.ring with
  | a :: _ => some ⟨a.tag, a.recipe, a.skipFlux⟩
  | [] =>
    if s.tbs.recipe.committed then
      match s.tbs.recipe.active.header with
      | some h => if h.required then none else (h.defaultRecipe.bind recipeIndex).map fun r => ⟨0, r, false⟩
      | none => none
    else none

/-- Condition 7 (R162). -/
def zonesReady (s : State) (r : Recipe) : Bool :=
  allZones.all fun k =>
    let x := getLoop s (zoneLoop k)
    ((r.zoneSp[k]).isNone || x.mode = .active) && (decide (x.mode ≠ .active) || x.inBand)

/-- Every nozzle named in any mask of a map is enabled in force and not faulted (R163); bit n of a mask names
nozzle n (DESIGN CHOICE, assumption 54). -/
def nozzlesReady (s : State) (m : FluxMap) : Bool :=
  allNozzles.all fun n =>
    !(m.masks.any fun b => b.getLsbD n.val) ||
      (!(getNozzle s n).faulted && (match (getNozzle s n).inForce with
        | some e => e.enabled
        | none => false))

/-- FLUX.PRESS is VALID and at or above the minimum in force (R64, R163). -/
def pressureReady (s : State) : Bool :=
  let g := signal s sigFlux
  match g.state, g.value, minPressure s with
  | .valid, some v, some m => decide ((m : Int) ≤ v)
  | _, _, _ => false

/-- Condition 9 (R163). -/
def fluxReady (s : State) (b : NextBoard) (r : Recipe) : Bool :=
  r.fluxMap.isNone || b.skipFlux ||
    ((match r.fluxMap.bind (activeMap s) with
      | some m => nozzlesReady s m
      | none => false) && pressureReady s)

/-- A recipe's transition tolerance or gap; a NONE recipe counts 0 (R164). -/
def transTolOf (r : Option Recipe) : Int :=
  match r with
  | some r => r.transTol
  | none => 0

/-- A recipe's transition gap; a NONE recipe counts 0 (R164). -/
def transGapOf (r : Option Recipe) : Nat :=
  match r with
  | some r => r.transGap
  | none => 0

/-- The own setpoints of some zone differ by more than the transition tolerance (R164). A zone with no
idle setpoint is left out. -/
def transitionNeeded (s : State) (next newest : Option Recipe) : Bool :=
  allZones.any fun k =>
    (activeLoop s (zoneLoop k)).isSome &&
      (match ownSetpoint s next k, ownSetpoint s newest k with
        | some a, some b => decide (max (transTolOf next) (transTolOf newest) < |a - b|)
        | _, _ => false)

/-- The required gap between the newest record and the next board (R164). With no record in the queue there
is no second recipe, and it is the next recipe's board gap. (DEDUCED, assumption 25.) -/
def gapOf (s : State) (next : Recipe) : Nat :=
  match s.trk.queue.getLast? with
  | none => next.boardGap
  | some b =>
    let newest := boardRecipe s b.data
    if transitionNeeded s (some next) newest then
      max next.boardGap (max next.transGap (transGapOf newest))
    else next.boardGap

/-- Condition 10 (R164). -/
def gapReady (s : State) (gap : Nat) : Bool :=
  match s.trk.queue.getLast? with
  | none => true
  | some b => b.data.len.isSome && decide ((gap : Int) ≤ trailing s b.data)

/-- The chain of R161 once a next board and its recipe are known: conditions 5 to 10. -/
def admissionTail (s : State) (b : NextBoard) (r : Recipe) (gap : Nat) : Reason :=
  if Config.queueSize ≤ s.trk.queue.length then .queueFull
  else if s.pot.state ≠ .ready ∨ s.pot.main.command ≠ s.pot.main.target then .pot
  else if !zonesReady s r then .zone
  else if speedOutside s.trk.speed r then .speed
  else if !fluxReady s b r then .flux
  else if !gapReady s gap then .gap
  else .none

/-- The admission reason: that of the first failing condition, NONE when all ten hold (R161). -/
def admissionReason (s : State) (b : Option NextBoard) (gap : Option Nat) : Reason :=
  if s.mdc.mode ≠ .run then .wrongMode
  else if s.mdc.notReady then .notReady
  else if s.ilu.standing ≠ 0 then .action
  else
    match b, gap with
    | some b, some g =>
      match activeRecipe s b.recipe with
      | some r => admissionTail s b r g
      | none => .noAnnouncement
    | _, _ => .noAnnouncement

/-- Next board, required gap, entry permit and admission reason taken again (R160 to R164). -/
def judgeAdmission (s : State) : State :=
  let b := nextBoardOf s
  let gap := (b.bind fun b => activeRecipe s b.recipe).map (gapOf s)
  let why := admissionReason s b gap
  { s with ilu := { s.ilu with
      nextBoard := b, requiredGap := gap, reason := why, entryPermit := decide (why = .none) } }

/-! ### Passing on the standing action (R154) -/

/-- The standing action computed again; a rise to INHIBIT_FLUX_NOW or higher acts on FLX at once
(R56). -/
def passStanding (s : State) : State :=
  let new := standingOf s
  let old := s.ilu.standing
  let s := { s with ilu := { s.ilu with standing := new } }
  if old < 3 ∧ 3 ≤ new then inhibitNow s else s

/-- Every judged condition of LPU. -/
def judgeLoops (s : State) : State :=
  allLoops.foldl (fun s l => judgeSensor (judgeBand (compose s l) l) l) s

/-- Every judged condition of POT. -/
def judgePot (s : State) : State := judgePump (judgePump (judgeTargets s) .chip) .main

/-- Every judged condition of FLX. -/
def judgeFlux (s : State) : State :=
  judgePressure (judgeFluxing (expireDwell (markDoubt (reevaluateValves s))))

/-- Every judged condition of EXU. -/
def judgeExtraction (s : State) : State := judgeService (judgeHood (judgeHood s hoodF) hoodP)

/-- One round: the standing action is passed on, and every condition but CONVEYOR_SPEED is judged against
it. -/
def judgeRound (s : State) : State :=
  judgeExtraction (judgeFlux (judgePot (judgeLoops (judgePermit (passStanding s)))))

/-- Rounds until the standing action stays, at most n (assumption 10). -/
def judgeRounds : Nat → State → State
  | 0, s => s
  | n + 1, s =>
    let t := judgeRound s
    if standingOf t = t.ilu.standing then t else judgeRounds n t

/-- The rounds; then, at each change of the standing action from the one CONVEYOR_SPEED was last judged
against, one it made itself included, CONVEYOR_SPEED is judged (R154, R165) and the rounds pass on what that
changed; at most n times (assumption 10). -/
def settleFrom : Nat → Nat → State → State
  | 0, _, s => judgeRounds Config.settleRounds s
  | n + 1, known, s =>
    let t := judgeRounds Config.settleRounds s
    if t.ilu.standing = known then t else settleFrom n t.ilu.standing (judgeSpeed t)

/-- The rounds from the standing action CONVEYOR_SPEED was last judged against, then outputs, next board and
entry permit taken again. -/
def settleWith (known : Nat) (s : State) : State :=
  judgeAdmission (judgeOutputs (settleFrom Config.settleRounds known s))

/-- Everything an event's change brings about in the same event: conditions judged, the standing action
passed on, outputs and entry permit taken again. -/
def settle (s : State) : State := settleWith s.ilu.standing s

/-- The same at an event that judges CONVEYOR_SPEED itself (R165): a sampling point, the making or
completion of a record, a change of the mode. It is judged once the event's other changes are passed on. -/
def settleSpeed (s : State) : State :=
  let t := judgeRounds Config.settleRounds s
  settleWith t.ilu.standing (judgeSpeed t)

end Sys2Proof.Machine
end

