-- ==== Sys2Proof/Machine/Track.lean ====
section
/-! DEFINITION. The Track Unit (chapter 1): encoder, position changes, eyes, windows, the tracking queue,
completion, announcements and purge. -/

namespace Sys2Proof.Machine

/-! ### Quadrature (R4) -/

/-- The place of a pair (ENCA, ENCB) in the forward sequence of R4. -/
def quadIndex (a b : Bool) : Fin 4 :=
  match a, b with
  | false, false => 0
  | true, false => 1
  | true, true => 2
  | false, true => 3

/-- The count a new pair gives: +1 forward, −1 backward, 0 where the pair did not change or both lines
changed together (R4). -/
def quadCount (a b a' b' : Bool) : Int :=
  let d := quadIndex a' b' - quadIndex a b
  if d = 1 then 1 else if d = 3 then -1 else 0

/-! ### Windows (R12) -/

/-- What the owner of a window does at its closing: FLX for a spray window; LPU and POT take the
closing from the windows themselves. -/
def windowClosed (s : State) (i : WindowId) (b : BoardRecord) (purged : Bool) : State :=
  match i with
  | .spray => closeSpray s b purged
  | .zone _ => s
  | .boost => s
  | .chip => s

/-- What the owner of a window does at its opening. -/
def windowOpened (s : State) (i : WindowId) (b : BoardRecord) : State :=
  match i with
  | .spray => openSpray s b
  | .zone _ => s
  | .boost => s
  | .chip => s

/-- The state of one window of a board put. -/
def putWindow (s : State) (p : Pos) (i : WindowId) (x : WindowState) : State :=
  updBoard s p fun b => { b with windows := b.windows.put i x }

/-- One window of one board judged (R12): it opens once its leading location is S − a or more, and at a
later event it closes once its trailing location is greater than S + b. -/
def judgeWindowOf (g : Geometry) (p : Pos) (s : State) (i : WindowId) : State :=
  match findBoard s p with
  | none => s
  | some b =>
    match b.windows.get i with
    | .before =>
      if (windowSpan g i).1 ≤ leading s b.data then windowOpened (putWindow s p i .opened) i b.data else s
    | .opened =>
      if (windowSpan g i).2 < trailing s b.data then
        windowClosed (putWindow s p i .closed) i b.data false
      else s
    | .closed => s

/-- Every window of one board judged; what a closing latched is passed on. -/
def judgeBoardWindows (s : State) (p : Pos) : State :=
  match activeGeometry s with
  | none => s
  | some g => settle (allWindows.foldl (judgeWindowOf g p) s)

/-- The windows of every board judged, oldest board first (assumption 9). -/
def judgeAllWindows (s : State) : State :=
  (s.trk.queue.map fun b => b.data.pIn).foldl judgeBoardWindows s

/-- Contact ends, then contact begins (R119). -/
def judgeContacts (s : State) : State := settle (judgeContactStart (judgeContactEnd s))

/-! ### Completion (R21, R22) -/

/-- One window of a board closed by its completion, when it is open. -/
def closeWindowOf (p : Pos) (purged : Bool) (s : State) (i : WindowId) : State :=
  match findBoard s p with
  | none => s
  | some b => if b.isOpen i then windowClosed (putWindow s p i .closed) i b.data purged else s

/-- A running contact interval of the board ends. -/
def endContactOf (s : State) (p : Pos) : State :=
  match s.pot.contact with
  | some c => if c.board = p then contactEnd s else s
  | none => s

/-- The entry eye's reference to the board is dropped (R9). -/
def dropAwaiting (s : State) (p : Pos) : State :=
  if s.trk.awaiting = some p then { s with trk := { s.trk with awaiting := none } } else s

/-- Stage 1 of a completion: every open window closes, a running contact interval of the board ends, and
the eye's reference is dropped. -/
def closeBoard (s : State) (p : Pos) (outcome : BoardOutcome) : State :=
  dropAwaiting (endContactOf (allWindows.foldl (closeWindowOf p (decide (outcome = .purged))) s) p) p

/-- Stage 2: the record leaves the tracking queue and the completed count increments. -/
def dropBoard (s : State) (p : Pos) : State :=
  { s with trk := { s.trk with
      queue := s.trk.queue.eraseP (fun b => b.data.pIn = p)
      completed := s.trk.completed + 1 } }

/-- Stage 3: the completion record is appended; a full completion queue first discards its oldest record
(R22). One longer than that, which no run has, is not cut (DEDUCED, assumption 38). -/
def appendCompletion (s : State) (c : Completion) : State :=
  let s := match s.trk.completions with
    | old :: rest =>
      if Config.completionSize ≤ s.trk.completions.length then
        latchSlot { s with trk := { s.trk with
          completions := rest, discards := satAdd 255 s.trk.discards 1 } } slotOverrun old.data.tag
      else s
    | [] => s
  { s with trk := { s.trk with completions := s.trk.completions ++ [c] } }

/-- The completion of the board that entered at p (R21). What the closings of stage 1 change is passed on, with
CONVEYOR_SPEED and the wave targets judged, before the record leaves the queue: R21 and R154 leave open whether
that comes before or after stage 2 (DESIGN CHOICE, assumption 47). -/
def completeBoard (s : State) (p : Pos) (outcome : BoardOutcome) (exitTime : Option Time) : State :=
  let s := settle (closeBoard s p outcome)
  match findBoard s p with
  | none => s
  | some b =>
    let s := appendCompletion (dropBoard s p) ⟨b.data, outcome, exitTime⟩
    settleSpeed (if s.trk.queue.isEmpty then judgeSetback s else s)

/-! ### Entry (R16, R17) -/

/-- The record a confirmed activation makes, before its flags of admission (R16). -/
def newRecord (pIn : Pos) (tIn : Time) (a : Option Announcement) (default : Option RecipeId) :
    BoardRecord :=
  { tag := match a with
      | some a => a.tag
      | none => 0
    recipe := match a with
      | some a => some a.recipe
      | none => default
    pIn := pIn
    tIn := tIn
    len := none
    expected := a.bind fun a => a.expected
    flags := ⟨a.isNone, false, false, match a with
      | some a => a.skipFlux
      | none => false⟩
    flux := none
    preheat := Vector.replicate 6 none
    wave := none }

/-- The windows of a record just made. -/
def newWindows : Windows := ⟨.before, Vector.replicate 6 .before, .before, .before⟩

/-- The default recipe of the active recipe table header (R16). -/
def defaultRecipe (s : State) : Option RecipeId :=
  (s.tbs.recipe.active.header.bind fun h => h.defaultRecipe).bind recipeIndex

/-- The entry permit of the last good frame (R16, R174); 0 where none has been produced (R178). -/
def producedPermit (s : State) : Bool :=
  match s.lnk.produced[6].last with
  | some v => v ≠ 0
  | none => false

/-- A record is made (R16): bound to the oldest announcement or under the rules for an empty ring,
flagged ADMIT_VIOLATION when the last good frame carried entry permit 0, appended, counted, with its
windows opened and contact judged; it ends a setback (R113). ADMIT_VIOLATION, the setback exit and
CONVEYOR_SPEED (R165) are taken, and the standing action passed on, before its windows open, so that they can
make its spray account SKIPPED: R16 and R49 leave that order open (DESIGN CHOICE, assumption 45). -/
def makeRecord (s : State) (pIn : Pos) (tIn : Time) : State :=
  let a := s.trk.ring.head?
  let r := newRecord pIn tIn a (defaultRecipe s)
  let closed := !producedPermit s
  let r := { r with flags := { r.flags with admitViolation := closed } }
  let s := { s with trk := { s.trk with
    ring := s.trk.ring.tail
    queue := s.trk.queue ++ [⟨r, newWindows, false⟩]
    awaiting := some pIn
    entered := s.trk.entered + 1 } }
  let s := if closed then latchSlot s slotAdmitViolation r.tag else s
  let s := exitSetback s
  let s := settleSpeed s
  judgeContacts (judgeBoardWindows s pIn)

/-- The activation lies behind the newest board (R16, first case). -/
def behindNewest (s : State) (pIn : Pos) : Bool :=
  match s.trk.queue.getLast? with
  | none => false
  | some b =>
    match b.data.len with
    | none => false
    | some l => decide (signedDiff pIn (b.data.pIn + BitVec.ofNat 32 l) < 0)

/-- A confirmed BES activation (R16 in RUN, R17 in any other mode). -/
def confirmEntry (s : State) (pIn : Pos) (tIn : Time) : State :=
  let s := { s with trk := { s.trk with entryEye := .confirmed, awaiting := none } }
  if s.mdc.mode ≠ .run then settle (latchSlot s slotAdmitViolation 0)
  else if behindNewest s pIn then s
  else if Config.queueSize ≤ s.trk.queue.length then
    settle (latchSlot s slotTrackOverflow (match s.trk.ring with
      | a :: _ => a.tag
      | [] => 0))
  else makeRecord s pIn tIn

/-! ### Exit and loss (R19, R20) -/

/-- A confirmed BXS activation (R19). -/
def confirmExit (s : State) (g : Geometry) (p : Pos) (t : Time) : State :=
  let s := { s with trk := { s.trk with exitEye := .confirmed } }
  if s.mdc.mode ≠ .run then s
  else
    match s.trk.queue with
    | [] => settle (latchSlot s slotPhantom 0)
    | b :: _ =>
      let loc := signedDiff p b.data.pIn
      if (g.exitLoc : Int) - g.exitTol ≤ loc ∧ loc ≤ (g.exitLoc : Int) + g.exitTol then
        completeBoard s b.data.pIn .exited (some t)
      else settle (latchSlot s slotPhantom b.data.tag)

/-- The lost limit (R20). -/
def lostLimit (g : Geometry) : Int := (g.exitLoc : Int) + g.exitTol + g.confirm

/-- The oldest board compared with the lost limit at a position change in RUN (R20): it completes, then
BOARD_LOST latches (DESIGN CHOICE, assumption 40). -/
def judgeLost (s : State) (g : Geometry) : State :=
  match s.trk.queue with
  | [] => s
  | b :: _ =>
    if s.mdc.mode = .run ∧ lostLimit g < leading s b.data then
      settle (latchSlot (completeBoard s b.data.pIn .lost none) slotBoardLost b.data.tag)
    else s

/-- An eye's pending activation is confirmed at this position (R8). -/
def confirms (s : State) (g : Geometry) (p : Pos) : Bool :=
  decide ((g.confirm : Int) ≤ signedDiff s.trk.pos p)

/-- The exit eye at a position change (R8). -/
def judgeExitEye (s : State) (g : Geometry) : State :=
  match s.trk.exitEye with
  | .pending p t => if confirms s g p then confirmExit s g p t else s
  | .clear => s
  | .confirmed => s

/-- The entry eye at a position change (R8). -/
def judgeEntryEye (s : State) (g : Geometry) : State :=
  match s.trk.entryEye with
  | .pending p t => if confirms s g p then confirmEntry s p t else s
  | .clear => s
  | .confirmed => s

/-! ### Position changes (R5, R6) -/

/-- The highest position reached, and CONVEYOR_REVERSE (R6). -/
def judgeReverse (s : State) : State :=
  let h := if 0 < signedDiff s.trk.pos s.trk.high then s.trk.pos else s.trk.high
  let s := { s with trk := { s.trk with high := h } }
  judgeSlot s slotReverse (decide (50 < signedDiff h s.trk.pos)) 0

/-- A position change (R5): every board-related rule acts, in the order of assumption 9. A completion at
it ends a contact interval, and one that then can begin does so in the same event (R119). -/
def positionChange (s : State) (g : Geometry) : State :=
  let s := settle (judgeReverse s)
  let s := judgeContacts (judgeAllWindows s)
  let s := judgeExitEye s g
  let s := judgeContacts (judgeLost s g)
  let s := judgeEntryEye s g
  settle s

/-- A count (R5): the remainder moves by 10,000 and the position by at most one dmm. With no geometry
committed since reset nothing moves. -/
def applyCount (s : State) (n : Int) : State :=
  match activeGeometry s with
  | none => s
  | some g =>
    if n = 1 then
      let r := s.trk.remainder + 10000
      if g.countsPerMetre ≤ r then
        positionChange { s with trk := { s.trk with
          remainder := r - g.countsPerMetre, pos := s.trk.pos + 1 } } g
      else { s with trk := { s.trk with remainder := r } }
    else if n = -1 then
      if s.trk.remainder < 10000 then
        positionChange { s with trk := { s.trk with
          remainder := s.trk.remainder + g.countsPerMetre - 10000, pos := s.trk.pos - 1 } } g
      else { s with trk := { s.trk with remainder := s.trk.remainder - 10000 } }
    else s

/-! ### Trailing edge (R10) -/

/-- The length tolerance check of R10. -/
def lengthMismatch (g : Geometry) (len : Nat) (expected : Option Nat) : Bool :=
  match expected with
  | some e => decide ((g.lengthTol : Int) < |(len : Int) - e|)
  | none => false

/-- The trailing edge of the record awaiting it is fixed (R10); closings that L brings about follow
(R12, R119). -/
def fixLength (s : State) (p : Pos) : State :=
  match findBoard s p, activeGeometry s with
  | some b, some g =>
    let len := (max 1 (signedDiff s.trk.pos b.data.pIn)).toNat
    let bad := lengthMismatch g len b.data.expected
    let s := updBoard s p fun x => { x with data := { x.data with
      len := some len
      flags := { x.data.flags with lengthMismatch := x.data.flags.lengthMismatch || bad } } }
    settle (judgeContacts (judgeBoardWindows s p))
  | _, _ => s

/-! ### Announcements (R13, R14) -/

/-- The tag is held by an announcement or by a record in the queue (R13). -/
def tagHeld (s : State) (tag : Nat) : Bool :=
  s.trk.ring.any (fun a => a.tag = tag) || s.trk.queue.any (fun b => b.data.tag = tag)

/-- An accepted announcement joins the ring and ends a setback (R13, R113). -/
def addAnnouncement (s : State) (a : Announcement) : State :=
  settle (exitSetback { s with trk := { s.trk with ring := s.trk.ring ++ [a] } })

/-- An announcement leaves the ring (R14); an empty ring judges the setback (R111). -/
def removeAnnouncement (s : State) (tag : Nat) : State :=
  let s := { s with trk := { s.trk with ring := s.trk.ring.filter fun a => a.tag ≠ tag } }
  settle (if s.trk.ring.isEmpty then judgeSetback s else s)

/-! ### Purge (R24) -/

/-- Every board completes as PURGED, oldest first (R24). -/
def purgeBoards (s : State) : State :=
  (s.trk.queue.map fun b => b.data.pIn).foldl (fun s p => completeBoard s p .purged none) s

/-- TRACK_PURGE (R24): boards, then PURGED latched with their number, then the ring. -/
def purge (s : State) (withdraw : Bool) : State :=
  let n := s.trk.queue.length
  let s := settle (latchSlot (purgeBoards s) slotPurged n)
  if withdraw then settle (judgeSetback { s with trk := { s.trk with ring := [] } }) else s

end Sys2Proof.Machine
end

