-- ==== Sys2Proof/Machine/Signals.lean ====
section
/-! DEFINITION. Consumed signals (chapter 9): states, ages, what each owner does at a fresh sample and at a
change of state, the link timer, and the effect of a slot-map commit. -/

namespace Sys2Proof.Machine

/-- The state with one signal table row changed. -/
def updSignal (s : State) (i : SignalId) (f : Signal → Signal) : State :=
  { s with lnk := { s.lnk with signals := upd s.lnk.signals i f } }

/-! ### INPUT_HELD (R173) -/

/-- At least one consumed signal is HELD. -/
def anyHeld (s : State) : Bool := s.lnk.signals.toList.any fun g => g.state = .held

/-- INPUT_HELD judged at a change of state of a signal, which is the detail when it opens a spell. -/
def judgeInputHeld (s : State) (i : SignalId) : State := judgeSlot s slotInputHeld (anyHeld s) i.val

/-! ### Owners (R172) -/

/-- What the owner of a signal does at a fresh sample; what no arm names is judged by `settle`. -/
def ownerSample (s : State) (i : SignalId) (v : Int) : State :=
  if h : i.val < 6 then zoneSample s ⟨i.val, h⟩ v
  else match i.val with
    | 6 => potSample s
    | 7 => potSample s
    | 9 => levelSample s v
    | 12 => if v = 0 ∨ v = 1 then s else feederOff s
    | 13 => ductSample s hoodF v
    | 14 => ductSample s hoodP v
    | 15 => judgeFilter s hoodF v
    | 16 => judgeFilter s hoodP v
    | _ => s

/-- What the owner of a signal does when it became LOST. -/
def ownerLost (s : State) (i : SignalId) : State :=
  if h : i.val < 6 then zoneLost s ⟨i.val, h⟩
  else match i.val with
    | 6 => potClassChange s
    | 7 => potClassChange s
    | 12 => feederOff s
    | 13 => ductLost s hoodF
    | 14 => ductLost s hoodP
    | 15 => filterLost s hoodF
    | 16 => filterLost s hoodP
    | _ => s

/-! ### Changes of state (R171) -/

/-- A signal becomes HELD: its value is kept. Open intervals take their doubt mark before what the change
brings about closes them (R54). -/
def becomeHeld (s : State) (i : SignalId) : State :=
  settle (markDoubt (judgeInputHeld (updSignal s i fun g => { g with state := .held }) i))

/-- A signal becomes LOST: a value is kept for reading. -/
def becomeLost (s : State) (i : SignalId) : State :=
  settle (markDoubt (ownerLost (judgeInputHeld (updSignal s i fun g => { g with state := .lost }) i) i))

/-- A signal became VALID: it leaves the awaited set, and NOT_READY clears in the event that empties the
set (R192). -/
def leaveAwaited (s : State) (i : SignalId) : State :=
  if i ∈ s.mdc.awaited then
    let l := s.mdc.awaited.filter fun j => j ≠ i
    { s with mdc := { s.mdc with awaited := l, notReady := s.mdc.notReady && !l.isEmpty } }
  else s

/-- A fresh sample (R170, R171). -/
def freshSample (s : State) (i : SignalId) (v : Int) (seq : Nat) (producer : Byte) : State :=
  let s := updSignal s i fun g => { g with
    state := .valid, value := some v, fresh := some s.now, lastSeq := some seq, producer := some producer }
  settle (markDoubt (ownerSample (leaveAwaited (judgeInputHeld s i) i) i v))

/-- The hold time of a signal's entry in the slot map in force. -/
def holdOfSignal (s : State) (i : SignalId) : Option Nat := (mapOf s i.val).bind fun e => e.hold

/-- The lost time of a signal's entry in the slot map in force. -/
def lostOfSignal (s : State) (i : SignalId) : Option Nat := (mapOf s i.val).bind fun e => e.lost

/-- A VALID signal has reached its hold time. -/
def holdDue (s : State) (i : SignalId) : Bool :=
  match (signal s i).state, (signal s i).fresh, holdOfSignal s i with
  | .valid, some t, some h => decide (h ≤ elapsed s.now t)
  | _, _, _ => false

/-- A HELD signal has reached its lost time. -/
def lostDue (s : State) (i : SignalId) : Bool :=
  match (signal s i).state, (signal s i).fresh, lostOfSignal s i with
  | .held, some t, some l => decide (l ≤ elapsed s.now t)
  | _, _, _ => false

/-- A mapped signal has stayed ABSENT for its lost time since the slot map took effect. -/
def absentDue (s : State) (i : SignalId) : Bool :=
  match (signal s i).state, s.lnk.mapSince, lostOfSignal s i with
  | .absent, some t, some l => decide (l ≤ elapsed s.now t)
  | _, _, _ => false

/-! ### The link timer (R175) -/

/-- The link timeout in force. -/
def linkTimeoutOf (s : State) : Nat :=
  match s.tbs.slotMap.active.header with
  | some t => t
  | none => Config.defaultLinkTimeout

/-- The link timer has expired and LINK_LOST is not live. -/
def linkDue (s : State) : Bool :=
  decide (linkTimeoutOf s ≤ elapsed s.now s.lnk.linkFrom) && !isLive s slotLinkLost

/-- The expiry of the link timer: LINK_LOST becomes live with the bad frames since the last good one. -/
def expireLink (s : State) : State := if linkDue s then raiseSlot s slotLinkLost s.lnk.badSince else s

/-! ### The slot-map commit (R176, R71, R126, R133, R142) -/

/-- Every loop's PV is absent (R71), which ends every OVERTEMP (DEDUCED, assumption 16). -/
def dropPvs (s : State) : State :=
  judgeAllOvertemp { s with lpu := ⟨s.lpu.loops.map fun x => { x with pv := none }, .none⟩ }

/-- Every consumed signal becomes ABSENT and every owner acts on it; produced records are kept. -/
def clearSignals (s : State) : State :=
  let s := { s with lnk := { s.lnk with
    signals := Vector.replicate 19 ⟨.absent, none, none, none, none, none⟩
    mapSince := some s.now } }
  let s := lowerSlot (dropPvs (lowerSlot s slotInputHeld)) slotPotDegraded
  let s := ductLost (ductLost (feederOff s) hoodF) hoodP
  markDoubt (filterLost (filterLost s hoodF) hoodP)

end Sys2Proof.Machine
end

