-- ==== Sys2Proof/Machine/Reply.lean ====
section
/-! DEFINITION. What the owner of a request answers: status, reason code and body (R185), and bodies that
carry as many whole items as fit (R31, R182). -/

namespace Sys2Proof.Machine

/-- The reasons of a REFUSED answer (R185). -/
inductive Refused
  | wrongMode | inUse | invalidTable | loopsActive | needsMaint | ringFull | duplicateTag | notFound
  | conditions | boardsInFlight | notConfigured | limitsBad | range
  deriving DecidableEq, Repr

/-- The reason codes of R185. -/
def Refused.code : Refused → Nat
  | .wrongMode => 1
  | .inUse => 2
  | .invalidTable => 3
  | .loopsActive => 4
  | .needsMaint => 5
  | .ringFull => 6
  | .duplicateTag => 7
  | .notFound => 8
  | .conditions => 9
  | .boardsInFlight => 10
  | .notConfigured => 11
  | .limitsBad => 12
  | .range => 13

/-- The reasons of a BAD_RECORD answer (R185). -/
inductive BadRecord
  | sequence | length | crc | format
  deriving DecidableEq, Repr

/-- The reason codes of R185. -/
def BadRecord.code : BadRecord → Nat
  | .sequence => 1
  | .length => 2
  | .crc => 3
  | .format => 4

/-- The status codes of R185. -/
def Status.code : Status → Nat
  | .done => 0
  | .busy => 1
  | .refused => 2
  | .badRecord => 3
  | .unknownKind => 4
  | .failed => 5

/-- The answer of an owner: status, reason code, and the body that follows them (R185). -/
structure Reply where
  status : Status
  reason : Nat
  body : List Byte
  deriving DecidableEq, Repr

/-- DONE with a body. -/
def done (body : List Byte) : Reply := ⟨.done, 0, body⟩

/-- REFUSED with a reason and no detail. -/
def refused (r : Refused) : Reply := ⟨.refused, r.code, []⟩

/-- REFUSED with a reason and its detail (R185). -/
def refusedWith (r : Refused) (detail : List Byte) : Reply := ⟨.refused, r.code, detail⟩

/-- BUSY (R185). -/
def busy : Reply := ⟨.busy, 0, []⟩

/-- The whole items that fit in the room, from the first on (R31). -/
def fit : Nat → List (List Byte) → List (List Byte)
  | _, [] => []
  | room, x :: l => if x.length ≤ room then x :: fit (room - x.length) l else []

/-- A body of fixed fields and as many whole items as fit with them, preceded by their number (R31,
R182). Two bytes of the longest body are the status and reason codes (R188). -/
def fitted (fixed : List Byte) (items : List (List Byte)) : List Byte :=
  let l := fit (Config.bodySize - 3 - fixed.length) items
  fixed ++ put8 l.length ++ l.flatten

end Sys2Proof.Machine
end

