-- ==== Sys2Proof/Machine/Tables.lean ====
section
/-! DEFINITION. The Table Store (chapter 2): staging, discarding and reading of the eleven tables, and the
in-use references. Validation and commit stand in Commit.lean. -/

namespace Sys2Proof.Machine

/-! ### Staging (R29) -/

/-- The content names something in each of its enumerated fields, or is EMPTY. -/
def contentNamed {α : Type} : Content α → Bool
  | .empty => true
  | .filled _ => true
  | .unnamed => false

/-- What a staged target holds. -/
def contentValue {α : Type} : Content α → Option α
  | .empty => none
  | .filled a => some a
  | .unnamed => none

/-- The item's target exists in a table of n entries, and its content is staged (R29). -/
def itemOk {H E : Type} (hasHeader : Bool) (n : Nat) : StageItem H E → Bool
  | .header c => hasHeader && contentNamed c
  | .entry i c => decide (i < n) && contentNamed c

/-- One item replaces the whole content of its target. -/
def TableCopy.put {H E : Type} {n : Nat} (t : TableCopy H E n) : StageItem H E → TableCopy H E n
  | .header c => { t with header := contentValue c }
  | .entry i c => if h : i < n then { t with entries := t.entries.set i (contentValue c) } else t

/-- The items applied in the order given. -/
def Table.stage {H E : Type} {n : Nat} (t : Table H E n) (items : List (StageItem H E)) :
    Table H E n :=
  { t with staged := items.foldl TableCopy.put t.staged }

/-- The checks of TABLE_STAGE as a whole (R29). A list of no items, which R29 does not give, passes (DESIGN
CHOICE, assumption 42). -/
def stageOk : StageRequest → Bool
  | .slotMap l => l.all (itemOk true 64)
  | .geometry l => l.all (itemOk false 1)
  | .loop l => l.all (itemOk false 7)
  | .gate l => l.all (itemOk false 16)
  | .phase l => l.all (itemOk false 3)
  | .recipe l => l.all (itemOk true 16)
  | .fluxMap l => l.all (itemOk false 8)
  | .nozzle l => l.all (itemOk true 8)
  | .pot l => l.all (itemOk false 1)
  | .extraction l => l.all (itemOk false 2)
  | .action l => l.all (itemOk false 64)
  | .unknown _ => false

/-- The number of items of a request. -/
def stageCount : StageRequest → Nat
  | .slotMap l => l.length
  | .geometry l => l.length
  | .loop l => l.length
  | .gate l => l.length
  | .phase l => l.length
  | .recipe l => l.length
  | .fluxMap l => l.length
  | .nozzle l => l.length
  | .pot l => l.length
  | .extraction l => l.length
  | .action l => l.length
  | .unknown _ => 0

/-- The Table Store with the request's items staged. -/
def Tbs.stage (b : Tbs) : StageRequest → Tbs
  | .slotMap l => { b with slotMap := b.slotMap.stage l }
  | .geometry l => { b with geometry := b.geometry.stage l }
  | .loop l => { b with loop := b.loop.stage l }
  | .gate l => { b with gate := b.gate.stage l }
  | .phase l => { b with phase := b.phase.stage l }
  | .recipe l => { b with recipe := b.recipe.stage l }
  | .fluxMap l => { b with fluxMap := b.fluxMap.stage l }
  | .nozzle l => { b with nozzle := b.nozzle.stage l }
  | .pot l => { b with pot := b.pot.stage l }
  | .extraction l => { b with extraction := b.extraction.stage l }
  | .action l => { b with action := b.action.stage l }
  | .unknown _ => b

/-- TABLE_STAGE (R29). -/
def stageRequest (s : State) (q : StageRequest) : State × Reply :=
  if stageOk q then ({ s with tbs := s.tbs.stage q }, done (put8 (stageCount q)))
  else (s, refused .range)

/-! ### Discarding (R30) -/

/-- The active copy over the staged copy. -/
def Table.discard {H E : Type} {n : Nat} (t : Table H E n) : Table H E n := { t with staged := t.active }

/-- The Table Store with one table's staged copy discarded. -/
def Tbs.discard (b : Tbs) : Nat → Tbs
  | 1 => { b with slotMap := b.slotMap.discard }
  | 2 => { b with geometry := b.geometry.discard }
  | 3 => { b with loop := b.loop.discard }
  | 4 => { b with gate := b.gate.discard }
  | 5 => { b with phase := b.phase.discard }
  | 6 => { b with recipe := b.recipe.discard }
  | 7 => { b with fluxMap := b.fluxMap.discard }
  | 8 => { b with nozzle := b.nozzle.discard }
  | 9 => { b with pot := b.pot.discard }
  | 10 => { b with extraction := b.extraction.discard }
  | 11 => { b with action := b.action.discard }
  | _ => b

/-- A table number of R28. -/
def tableNumber (n : Nat) : Bool := decide (1 ≤ n) && decide (n ≤ 11)

/-- TABLE_DISCARD (R30). -/
def discardRequest (s : State) (table : Nat) : State × Reply :=
  if tableNumber table then ({ s with tbs := s.tbs.discard table }, done [])
  else (s, refused .range)

/-! ### Reading (R31) -/

/-- The named copy of a table. -/
def Table.copy {H E : Type} {n : Nat} (t : Table H E n) : CopyName → TableCopy H E n
  | .staged => t.staged
  | .active => t.active

/-- The targets of a copy as a response carries them: the header before entry 0 where the table has one,
each with its content or EMPTY. -/
def TableCopy.targets {H E : Type} {n : Nat} (c : TableCopy H E n) (hasHeader : Bool)
    (putH : H → List Byte) (putE : E → List Byte) : List (List Byte) :=
  (if hasHeader then [putOpt putH c.header] else []) ++ c.entries.toList.map (putOpt putE)

/-- The place of a target among the targets of a table of n entries; none when it does not exist. -/
def targetPlace (hasHeader : Bool) (n : Nat) : Target → Option Nat
  | .header => if hasHeader then some 0 else none
  | .entry i => if i < n then some (if hasHeader then i + 1 else i) else none

/-- The body of a TABLE_READ of one table (R31): committed flag, differs, the number of targets carried
and the targets. R31 names the targets first and gives no layout; that they stand last, behind what says how many
they are, is the model's (DESIGN CHOICE, assumption 11). -/
def Table.read {H E : Type} {n : Nat} [DecidableEq H] [DecidableEq E] (t : Table H E n)
    (hasHeader : Bool) (putH : H → List Byte) (putE : E → List Byte) (copy : CopyName) (first : Target)
    (count : Nat) : Option (List Byte) :=
  (targetPlace hasHeader n first).map fun place =>
    fitted (putBool t.committed ++ putBool (decide (t.staged ≠ t.active)))
      ((((t.copy copy).targets hasHeader putH putE).drop place).take count)

/-- The body of a TABLE_READ; none for a table or first target that does not exist. -/
def Tbs.read (b : Tbs) (copy : CopyName) (first : Target) (count : Nat) : Nat → Option (List Byte)
  | 1 => b.slotMap.read true put32 putMapEntry copy first count
  | 2 => b.geometry.read false putUnit putGeometry copy first count
  | 3 => b.loop.read false putUnit putLoopEntry copy first count
  | 4 => b.gate.read false putUnit putGateEntry copy first count
  | 5 => b.phase.read false putUnit putPhaseEntry copy first count
  | 6 => b.recipe.read true putRecipeHeader putRecipe copy first count
  | 7 => b.fluxMap.read false putUnit putFluxMap copy first count
  | 8 => b.nozzle.read true putNozzleHeader putNozzleEntry copy first count
  | 9 => b.pot.read false putUnit putPotEntry copy first count
  | 10 => b.extraction.read false putUnit putExtractionEntry copy first count
  | 11 => b.action.read false putUnit putActionEntry copy first count
  | _ => none

/-- TABLE_READ (R31). -/
def readRequest (s : State) (table : Nat) (copy : CopyName) (first : Target) (count : Nat) : Reply :=
  match s.tbs.read copy first count table with
  | some body => done body
  | none => refused .range

/-! ### References (R35) -/

/-- A recipe index is referenced by an announcement or a record in the queue. -/
def referenced (s : State) (r : RecipeId) : Bool :=
  s.trk.ring.any (fun a => a.recipe = r) || s.trk.queue.any (fun b => b.data.recipe = some r)

/-- The recipe indexes in order. -/
def allRecipes : List RecipeId := [0, 1, 2, 3, 4, 5, 6, 7, 8, 9, 10, 11, 12, 13, 14, 15]

/-- The flux map indexes in order. -/
def allMaps : List (Fin 8) := [0, 1, 2, 3, 4, 5, 6, 7]

/-- A flux map index is referenced while a referenced recipe names it in the active recipe table. -/
def mapReferenced (s : State) (m : Fin 8) : Bool :=
  allRecipes.any fun r =>
    referenced s r && (match activeRecipe s r with
      | some x => x.fluxMap = some m.val
      | none => false)

/-- The first referenced index whose staged content differs from the active one (R35); none for the
tables that have no in-use check. -/
def inUse (s : State) (table : Nat) : Option Nat :=
  match table with
  | 6 => (allRecipes.find? fun r =>
      referenced s r && decide (s.tbs.recipe.staged.entries[r] ≠ s.tbs.recipe.active.entries[r])).map
        fun r => r.val
  | 7 => (allMaps.find? fun m =>
      mapReferenced s m && decide (s.tbs.fluxMap.staged.entries[m] ≠ s.tbs.fluxMap.active.entries[m])).map
        fun m => m.val
  | _ => none

end Sys2Proof.Machine
end

