-- ==== Sys2Proof/Machine/Validate.lean ====
section
/-! DEFINITION. Validation of a staged table (R33, R36 to R46): the first offence in the order of the
targets and of the fields of section 2.4. Fields are numbered from 0 in that order; a field that stands
once for each zone, breakpoint or level also names which one (assumption 12). -/

namespace Sys2Proof.Machine

/-- The kinds of offence (R33), numbered in the order of its table. -/
inductive Offence
  | missing | outOfRange | order | duplicate | reference | fixed
  deriving DecidableEq, Repr

/-- The code of an offence in the report (assumption 12). -/
def Offence.code : Offence → Nat
  | .missing => 0
  | .outOfRange => 1
  | .order => 2
  | .duplicate => 3
  | .reference => 4
  | .fixed => 5

/-- One field judged: its number, which of several it is, and its offence if it has one. -/
structure FieldCheck where
  field : Nat
  sub : Option Nat
  offence : Option Offence
  deriving DecidableEq, Repr

/-- The INVALID_TABLE report: target, field and offence (R33). -/
structure Report where
  target : Target
  field : Nat
  sub : Option Nat
  offence : Offence
  deriving DecidableEq, Repr

/-- A report as the detail of the refusal (R185). -/
def putReport (r : Report) : List Byte :=
  putTarget r.target ++ put8 r.field ++ putOpt put8 r.sub ++ put8 r.offence.code

/-! ### Building checks -/

/-- The first offence whose condition is met. -/
def firstOf : List (Bool × Offence) → Option Offence
  | [] => none
  | (bad, o) :: l => if bad then some o else firstOf l

/-- A field with its checks in order. -/
def check (field : Nat) (l : List (Bool × Offence)) : FieldCheck := ⟨field, none, firstOf l⟩

/-- A field that stands several times, with its checks in order. -/
def checkSub (field sub : Nat) (l : List (Bool × Offence)) : FieldCheck := ⟨field, some sub, firstOf l⟩

/-- A number outside its range. -/
def outside (lo hi n : Nat) : Bool × Offence := (decide (n < lo) || decide (hi < n), .outOfRange)

/-- A signed number outside its range. -/
def outsideS (lo hi n : Int) : Bool × Offence := (decide (n < lo) || decide (hi < n), .outOfRange)

/-- A relation of order that fails. -/
def disordered (bad : Bool) : Bool × Offence := (bad, .order)

/-- An optional field that is required here, with the checks of its value. -/
def required {α : Type} (o : Option α) (f : α → List (Bool × Offence)) : List (Bool × Offence) :=
  match o with
  | none => [(true, .missing)]
  | some a => f a

/-- An optional field that must be absent here. Present, it is FIXED (DEDUCED, assumption 33). -/
def mustBeAbsent {α : Type} (o : Option α) : List (Bool × Offence) := [(o.isSome, .fixed)]

/-- An optional field required in one case and to be absent in the other. -/
def requiredIff {α : Type} (c : Bool) (o : Option α) (f : α → List (Bool × Offence)) :
    List (Bool × Offence) :=
  if c then required o f else mustBeAbsent o

/-- An optional field that may be absent. -/
def allowed {α : Type} (o : Option α) (f : α → List (Bool × Offence)) : List (Bool × Offence) :=
  match o with
  | none => []
  | some a => f a

/-- A target that must be filled: an EMPTY one is MISSING at its first field (R33). -/
def filled {α : Type} (o : Option α) (f : α → List FieldCheck) : List FieldCheck :=
  match o with
  | none => [⟨0, none, some .missing⟩]
  | some a => f a

/-- A target that may be EMPTY. -/
def mayBeEmpty {α : Type} (o : Option α) (f : α → List FieldCheck) : List FieldCheck :=
  match o with
  | none => []
  | some a => f a

/-! ### The checks of each table -/

/-- An earlier entry of the slot map satisfies p. -/
def earlier (c : TableCopy Nat MapEntry 64) (i : Nat) (p : MapEntry → Bool) : Bool :=
  (c.entries.toList.take i).any fun e =>
    match e with
    | some m => p m
    | none => false

/-- A consumed signal id (R36). -/
def isConsumed (id : Nat) : Bool := decide (id ≤ 18)

/-- A produced signal id (R36). -/
def isProduced (id : Nat) : Bool := decide (32 ≤ id) && decide (id ≤ 41)

/-- A slot-map entry at an index (R36). -/
def checkMapEntry (c : TableCopy Nat MapEntry 64) (i : Nat) (e : MapEntry) : List FieldCheck :=
  [ check 0 [(!(isConsumed e.signal || isProduced e.signal), .outOfRange),
      (earlier c i fun m => decide (m.signal = e.signal), .duplicate)],
    check 1 [outside 0 63 e.slot, (earlier c i fun m => decide (m.slot = e.slot), .duplicate)],
    check 2 [(decide (e.direction ≠ if isConsumed e.signal then .consumed else .produced), .fixed)],
    check 3 (requiredIff (isConsumed e.signal) e.hold fun h => [outside 10 5000 h]),
    check 4 (requiredIff (isConsumed e.signal) e.lost fun l =>
      [(decide (30000 < l), .outOfRange), disordered (decide (l ≤ e.hold.getD 0))]) ]

/-- The fields of one zone's place (R37). -/
def checkZone (k : Nat) (z : ZonePlace) : List FieldCheck :=
  [ checkSub 4 k [outside 0 100000 z.start],
    checkSub 5 k [outside 0 100000 z.stop, disordered (decide (z.stop ≤ z.start))],
    checkSub 6 k [outside 0 5000 z.lead],
    checkSub 7 k [outside 0 5000 z.lag] ]

/-- The geometry entry (R37). -/
def checkGeometry (g : Geometry) : List FieldCheck :=
  [ check 0 [outside 10000 400000 g.countsPerMetre],
    check 1 [outside 5 100 g.confirm],
    check 2 [outside 0 100000 g.sprayPoint],
    check 3 [outsideS (-2000) 2000 g.nozzleLead, outsideS 1 100000 (evalPoint g)] ] ++
  (allZones.flatMap fun k => checkZone k.val g.zones[k]) ++
  [ check 8 [outside 0 100000 g.chipWave],
    check 9 [outside 0 100000 g.mainWave],
    check 10 [outside 0 5000 g.boostLead],
    check 11 [outside 0 5000 g.boostLag],
    check 12 [outside 0 5000 g.chipLead],
    check 13 [outside 0 5000 g.chipLag],
    check 14 [outside 1 100000 g.exitLoc],
    check 15 [outside 10 2000 g.exitTol, disordered (decide ((g.exitLoc : Int) - g.exitTol < 1))],
    check 16 [outside 0 5000 g.lengthTol] ]

/-- A loop entry (R38). -/
def checkLoop (e : LoopEntry) : List FieldCheck :=
  [ check 0 [outsideS 0 6000 e.idle],
    check 1 [outside 0 255 e.kp],
    check 2 [outside 0 255 e.ki],
    check 3 [outside 0 1000 e.umax],
    check 4 [outsideS 1 500 e.band],
    check 5 [outside 30 900 e.runawayWindow],
    check 6 [outsideS 10 500 e.runawayRise],
    check 7 [outside 10 600 e.settle] ]

/-- A gate entry (R39). -/
def checkGate (e : GateEntry) : List FieldCheck :=
  [ check 0 [],
    check 1 (requiredIff e.loop.isSome e.phase fun _ => []),
    check 2 (requiredIff e.loop.isSome e.load fun n => [outside 1 400 n]),
    check 3 (requiredIff e.loop.isSome e.priority fun n => [outside 0 3 n]),
    check 4 (requiredIff e.loop.isSome e.enabled fun _ => []) ]

/-- A phase entry (R40). -/
def checkPhase (e : PhaseEntry) : List FieldCheck :=
  [ check 0 [(decide (e.frequency ≠ 50) && decide (e.frequency ≠ 60), .fixed)],
    check 1 [outside 0 1000 e.budget] ]

/-- The recipe at an index of a copy is filled. -/
def recipeFilled (c : TableCopy RecipeHeader Recipe 16) (n : Nat) : Bool :=
  if h : n < 16 then (c.entries[n]).isSome else false

/-- The recipe table header (R41). -/
def checkRecipeHeader (c : TableCopy RecipeHeader Recipe 16) (h : RecipeHeader) : List FieldCheck :=
  [ check 0 (allowed h.defaultRecipe fun n => [outside 0 15 n, (!recipeFilled c n, .reference)]),
    check 1 [] ]

/-- A recipe (R41). The maps it may name are those of the active flux map table. -/
def checkRecipe (s : State) (r : Recipe) : List FieldCheck :=
  [ check 0 (allowed r.fluxMap fun m => [outside 0 7 m, ((activeMap s m).isNone, .reference)]),
    check 1 (requiredIff r.fluxMap.isSome r.fluxTarget fun n => [outside 1 100000000 n]),
    check 2 (requiredIff r.fluxMap.isSome r.fluxTol fun n => [outside 1 50 n]) ] ++
  (allZones.map fun k => checkSub 3 k.val (allowed r.zoneSp[k] fun x => [outsideS 0 6000 x])) ++
  (allZones.map fun k => checkSub 4 k.val (allowed r.zoneFf[k] fun n => [outside 0 500 n])) ++
  [ check 5 [],
    check 6 [outside 0 1000 r.contactSpeed],
    check 7 [outsideS 0 6000 r.bandMin],
    check 8 [outsideS 0 6000 r.bandMax, disordered (decide (r.bandMax < r.bandMin))],
    check 9 [outside 0 2000 r.boardGap],
    check 10 [outsideS 0 1000 r.transTol],
    check 11 [outside 0 10000 r.transGap],
    check 12 [outsideS 0 6000 r.speedMin],
    check 13 [outsideS 0 6000 r.speedMax, disordered (decide (r.speedMax < r.speedMin))] ]

/-- A flux map (R42). -/
def checkFluxMap (m : FluxMap) : List FieldCheck :=
  [ check 0 [outside 20 500 m.segLen],
    check 1 [outside 1 128 m.segCount],
    check 2 [(decide (m.masks.length ≠ m.segCount), .outOfRange)] ]

/-- A filled recipe of the active recipe table names the map. -/
def mapNeeded (s : State) (m : Nat) : Bool :=
  allRecipes.any fun r =>
    match activeRecipe s r with
    | some x => x.fluxMap = some m
    | none => false

/-- The nozzle table header (R43). -/
def checkNozzleHeader (h : NozzleHeader) : List FieldCheck :=
  [ check 0 [outside 500 20000 h.maxOpen], check 1 [outside 0 10000 h.minPress] ]

/-- A nozzle entry (R43). -/
def checkNozzle (e : NozzleEntry) : List FieldCheck :=
  [ check 0 [outside 1 2000 e.flow], check 1 [] ]

/-- One breakpoint of the pot table, against the one before it (R44). -/
def checkBreakpoint (k : Nat) (prev : Option Breakpoint) (b : Breakpoint) : List FieldCheck :=
  [ checkSub 6 k [outside 0 1000 b.speed, disordered (match prev with
      | some p => decide (b.speed ≤ p.speed)
      | none => false)],
    checkSub 7 k [outsideS (-5000) 5000 b.offset] ]

/-- The level fields of the pot table (R44). -/
def checkLevels (p : PotEntry) : List FieldCheck :=
  [ check 8 [outsideS (-20000) 20000 p.feedOn],
    check 9 [outsideS (-20000) 20000 p.feedOff, disordered (decide (p.feedOff ≤ p.feedOn))],
    check 10 [outsideS (-20000) 20000 p.lowLow, disordered (decide (p.feedOn ≤ p.lowLow))],
    check 11 [outsideS (-20000) 20000 p.highHigh, disordered (decide (p.highHigh ≤ p.feedOff))] ]

/-- The pot entry (R44). -/
def checkPot (p : PotEntry) : List FieldCheck :=
  [ check 0 [outsideS 0 6000 p.runSp],
    check 1 [outsideS 0 6000 p.setbackSp, disordered (decide (p.runSp < p.setbackSp))],
    check 2 [outsideS 0 500 p.startMargin],
    check 3 [outside 0 7200 p.setbackDelay],
    check 4 [outsideS 1 200 p.disagree],
    check 5 [outsideS (-20000) 20000 p.levelRef] ] ++
  checkBreakpoint 0 none p.breakpoints[0] ++
  checkBreakpoint 1 (some p.breakpoints[0]) p.breakpoints[1] ++
  checkBreakpoint 2 (some p.breakpoints[1]) p.breakpoints[2] ++
  checkBreakpoint 3 (some p.breakpoints[2]) p.breakpoints[3] ++
  checkLevels p ++
  [ check 12 [outside 1 120 p.feederMaxRun],
    check 13 [outside 1 1000 p.feederRate],
    check 14 [outside 0 1000 p.chipNominal],
    check 15 [outside 0 1000 p.chipIdle],
    check 16 [outside 0 1000 p.mainNominal],
    check 17 [outside 0 1000 p.mainIdle],
    check 18 [outside 10 1000 p.ramp],
    check 19 [outside 1 200 p.pumpTol],
    check 20 [outside 1 60 p.maxDwell],
    check 21 [outside 0 6000 p.conveyorSpeed] ]

/-- The extraction entry of a hood (R45). -/
def checkExtraction (h : HoodId) (e : ExtractionEntry) : List FieldCheck :=
  let f := decide (h = hoodF)
  [ check 0 [outside 0 4095 e.kf],
    checkSub 1 0 [outside 0 65535 e.reqFull],
    checkSub 1 1 (requiredIff f e.reqReduced fun n => [outside 0 65535 n]),
    checkSub 1 2 [outside 0 65535 e.reqLeast],
    checkSub 2 0 [outside 0 1000 e.fanFull],
    checkSub 2 1 (requiredIff f e.fanReduced fun n => [outside 0 1000 n]),
    checkSub 2 2 [outside 0 1000 e.fanLeast],
    check 3 (requiredIff f e.vapourDwell fun n => [outside 0 120 n]),
    check 4 (requiredIff (!f) e.hotThreshold fun x => [outsideS 0 6000 x]),
    check 5 [outside 1 60 e.grace],
    check 6 [outside 1 30 e.debounce],
    check 7 [outside 10 600 e.lockout],
    check 8 [outside 0 65535 e.warnDrop],
    check 9 [outside 0 65535 e.maxDrop, disordered (decide (e.maxDrop ≤ e.warnDrop))] ]

/-- The fixed hold of an action entry (R46). -/
def holdBroken (k : Nat) (h : Hold) : Bool :=
  match k with
  | 0 => decide (h ≠ .untilRead)
  | 54 => decide (h ≠ .onLive)
  | _ => false

/-- The action entry of a slot (R46). -/
def checkAction (k : Nat) (e : ActionEntry) : List FieldCheck :=
  [ check 0 [outside 0 5 e.cls], check 1 [(holdBroken k e.hold, .fixed)], check 2 [] ]

/-! ### The first offence of a table -/

/-- The first field with an offence. -/
def offenceOf (l : List FieldCheck) : Option FieldCheck := l.find? fun c => c.offence.isSome

/-- The report of the first field with an offence in a target. -/
def reportOf (t : Target) (l : List FieldCheck) : Option Report :=
  match offenceOf l with
  | some ⟨field, sub, some o⟩ => some ⟨t, field, sub, o⟩
  | _ => none

/-- The first report of the targets in order. -/
def firstReport (l : List (Target × List FieldCheck)) : Option Report :=
  l.findSome? fun x => reportOf x.1 x.2

/-- The entries of a copy with their indexes and checks. -/
def entryChecks {H E : Type} {n : Nat} (c : TableCopy H E n)
    (f : Nat → Option E → List FieldCheck) : List (Target × List FieldCheck) :=
  c.entries.toList.mapIdx fun i e => (.entry i, f i e)

/-- The first offence of a staged table, or none (R33). -/
def validate (s : State) : Nat → Option Report
  | 1 =>
    let c := s.tbs.slotMap.staged
    firstReport ((.header, filled c.header fun t => [check 0 [outside 10 500 t]]) ::
      entryChecks c fun i e => mayBeEmpty e (checkMapEntry c i))
  | 2 => firstReport (entryChecks s.tbs.geometry.staged fun _ e => filled e checkGeometry)
  | 3 => firstReport (entryChecks s.tbs.loop.staged fun _ e => filled e checkLoop)
  | 4 => firstReport (entryChecks s.tbs.gate.staged fun _ e => filled e checkGate)
  | 5 => firstReport (entryChecks s.tbs.phase.staged fun _ e => filled e checkPhase)
  | 6 =>
    let c := s.tbs.recipe.staged
    firstReport ((.header, filled c.header (checkRecipeHeader c)) ::
      entryChecks c fun _ e => mayBeEmpty e (checkRecipe s))
  | 7 =>
    let c := s.tbs.fluxMap.staged
    firstReport (entryChecks c (fun _ e => mayBeEmpty e checkFluxMap) ++
      entryChecks c fun m e => [check 1 [(e.isNone && mapNeeded s m, .reference)]])
  | 8 =>
    let c := s.tbs.nozzle.staged
    firstReport ((.header, filled c.header checkNozzleHeader) ::
      entryChecks c fun _ e => filled e checkNozzle)
  | 9 => firstReport (entryChecks s.tbs.pot.staged fun _ e => filled e checkPot)
  | 10 => firstReport (entryChecks s.tbs.extraction.staged fun h e =>
      filled e (checkExtraction (if h = 0 then hoodF else hoodP)))
  | 11 => firstReport (entryChecks s.tbs.action.staged fun k e => filled e (checkAction k))
  | _ => none

end Sys2Proof.Machine
end

