-- ==== Sys2Proof/Machine/Commit.lean ====
section
/-! DEFINITION. TABLE_COMMIT (R32): conditions (R34), the copy, and the immediate effects that section 2.4
lists with each table. -/

namespace Sys2Proof.Machine

/-- All seven loops are OFF (R34). -/
def allLoopsOff (s : State) : Bool := allLoops.all fun l => (getLoop s l).mode = .off

/-- The conveyor speed command of a copy of the pot table; an EMPTY entry counts as 0 (R34). -/
def speedCommand (c : TableCopy Unit PotEntry 1) : Nat :=
  match c.entries[0] with
  | some e => e.conveyorSpeed
  | none => 0

/-- The table's commit needs mode CONFIG (R34). -/
def needsConfig (s : State) : Nat → Bool
  | 1 => true
  | 2 => true
  | 4 => true
  | 5 => true
  | 9 => decide (speedCommand s.tbs.pot.staged ≠ speedCommand s.tbs.pot.active)
  | _ => false

/-- The table's commit needs all loops off (R34). -/
def needsLoopsOff : Nat → Bool
  | 1 => true
  | 4 => true
  | 5 => true
  | _ => false

/-- The commit conditions that fail, WRONG_MODE before LOOPS_ACTIVE (R34). -/
def commitRefusal (s : State) (table : Nat) : Option Refused :=
  if needsConfig s table && s.mdc.mode ≠ .config then some .wrongMode
  else if needsLoopsOff table && !allLoopsOff s then some .loopsActive
  else none

/-- The staged copy becomes active and the flag is set (R32). -/
def Table.commit {H E : Type} {n : Nat} (t : Table H E n) : Table H E n :=
  { t with active := t.staged, committed := true }

/-- The Table Store with one table committed. -/
def Tbs.commit (b : Tbs) : Nat → Tbs
  | 1 => { b with slotMap := b.slotMap.commit }
  | 2 => { b with geometry := b.geometry.commit }
  | 3 => { b with loop := b.loop.commit }
  | 4 => { b with gate := b.gate.commit }
  | 5 => { b with phase := b.phase.commit }
  | 6 => { b with recipe := b.recipe.commit }
  | 7 => { b with fluxMap := b.fluxMap.commit }
  | 8 => { b with nozzle := b.nozzle.commit }
  | 9 => { b with pot := b.pot.commit }
  | 10 => { b with extraction := b.extraction.commit }
  | 11 => { b with action := b.action.commit }
  | _ => b

/-- Running windows and settle timers of every loop judged against new durations (R38). A window already past
its new duration expires in the commit (R83) and may fault its loop, though R38 has the commit leave each loop's
state: the fault is the expiry's and not the commit's (DEDUCED, assumption 48). -/
def expireLoopTimers (s : State) : State :=
  allLoops.foldl (fun s l => expireSettle (expireWindow s l) l) s

/-- Loop-table commit (R38): clamps, setpoints and band, then the running timers. -/
def commitLoops (s : State) : State := expireLoopTimers (settle (allLoops.foldl clampLoop s))

/-- Pot-table commit (R44): setpoints and targets, then setback, dwell and max run against the new
durations. -/
def commitPot (s : State) : State := expireMaxRun (expireContactDwell (judgeSetback (settle s)))

/-- Extraction-table commit (R45): levels as they stand, then each hood's timers and filter alarms. -/
def commitExtraction (s : State) : State := commitHood (commitHood (settle s) hoodF) hoodP

/-- The immediate effects of a table's commit. Their order is DESIGN CHOICE, assumption 34. -/
def commitEffects (s : State) : Nat → State
  | 1 => settle (expireLink (clearSignals s))
  | 2 => settle { s with trk := { s.trk with remainder := 0 } }
  | 3 => settle (commitLoops s)
  | 4 => settle (commitGates s)
  | 5 => settle (allPhases.foldl commitPhase s)
  | 6 => settle s
  | 7 => settle s
  | 8 => settle (markDoubt (commitNozzles s))
  | 9 => settle (commitPot s)
  | 10 => settle (commitExtraction s)
  | 11 => settle s
  | _ => s

/-- TABLE_COMMIT (R32): validation, conditions, in-use check, then the commit. -/
def commitRequest (s : State) (table : Nat) : State × Reply :=
  if !tableNumber table then (s, refused .range)
  else match validate s table with
    | some r => (s, refusedWith .invalidTable (putReport r))
    | none =>
      match commitRefusal s table with
      | some r => (s, refused r)
      | none =>
        match inUse s table with
        | some i => (s, refusedWith .inUse (put8 i))
        | none => (commitEffects { s with tbs := s.tbs.commit table } table, done [])

end Sys2Proof.Machine
end

