-- ==== Sys2Proof/Machine/Modes.lean ====
section
/-! DEFINITION. The Mode Controller (R190 to R192): changes of mode, the awaited set, MODE_SET. -/

namespace Sys2Proof.Machine

/-- The code of a mode (R189). -/
def modeCode : Mode → Nat
  | .starting => 0
  | .config => 1
  | .run => 2
  | .maintenance => 3

/-- The target mode a code names (R190): CONFIG, RUN or MAINTENANCE. -/
def targetMode : Nat → Option Mode
  | 1 => some .config
  | 2 => some .run
  | 3 => some .maintenance
  | _ => none

/-- The mapped consumed signals that are not VALID (R192). -/
def awaitedNow (s : State) : List SignalId :=
  allSignals.filter fun i => mapped s i && decide ((signal s i).state ≠ .valid)

/-- What the departure from a mode ends: a nozzle test or a feeder jog (R63, R130), and readiness
(R192; the awaited set is emptied, assumption 20). -/
def leaveMode (s : State) : State :=
  match s.mdc.mode with
  | .maintenance => endJog (endTest s .modeLeft)
  | .run => { s with mdc := { s.mdc with notReady := true, awaited := [] } }
  | .starting => s
  | .config => s

/-- What the entry into a mode begins: in RUN the awaited set is formed (R192) and the setback is judged
(R111). -/
def enterMode (s : State) : State :=
  match s.mdc.mode with
  | .run =>
    let l := awaitedNow s
    judgeSetback { s with mdc := { s.mdc with notReady := !l.isEmpty, awaited := l } }
  | .starting => s
  | .config => s
  | .maintenance => s

/-- A change of mode with what every block does at it (R190). -/
def changeMode (s : State) (m : Mode) : State :=
  let s := leaveMode s
  settleSpeed (enterMode { s with mdc := { s.mdc with mode := m } })

/-- Tables 1, 2, 3, 4, 5, 9, 10 and 11 have been committed since reset (R190). -/
def configured (s : State) : Bool :=
  s.tbs.slotMap.committed && s.tbs.geometry.committed && s.tbs.loop.committed && s.tbs.gate.committed &&
    s.tbs.phase.committed && s.tbs.pot.committed && s.tbs.extraction.committed && s.tbs.action.committed

/-- The checks of R190 after the first two, for a target other than the present mode. -/
def modeRefusal (s : State) (m : Mode) : Option Refused :=
  if m = .maintenance ∧ s.lines.maint = false then some .needsMaint
  else if s.mdc.mode = .run ∧ s.trk.queue ≠ [] then some .boardsInFlight
  else if m = .run ∧ s.lst.block = none then some .limitsBad
  else if m = .run ∧ configured s = false then some .notConfigured
  else none

/-- MODE_SET (R190). -/
def modeRequest (s : State) (target : Nat) : State × Reply :=
  match targetMode target with
  | none => (s, refused .range)
  | some m =>
    if s.mdc.mode = .starting then (s, refused .wrongMode)
    else if s.mdc.mode = m then (s, done (put8 (modeCode m)))
    else match modeRefusal s m with
      | some r => (s, refused r)
      | none => (changeMode s m, done (put8 (modeCode m)))

/-- An edge of the MAINT line (R191): becoming inactive in MAINTENANCE it moves the mode to CONFIG. -/
def maintEdge (s : State) (level : Bool) : State :=
  let s := { s with lines := { s.lines with maint := level } }
  if s.mdc.mode = .maintenance ∧ level = false then changeMode s .config else s

end Sys2Proof.Machine
end

