-- ==== Sys2Proof/Machine/Store.lean ====
section
/-! DEFINITION. Operations of the Limits Store (R194 to R196): start-up read, LIMITS_WRITE and its
completion, SAVE completion, LIMITS_READ. -/

namespace Sys2Proof.Machine

/-! ### Start-up read (R194) -/

/-- The filter hours a checked block gives EXU (R145): the block's, or 0. -/
def hoursOf (b : Option Block) (h : HoodId) : Nat :=
  match b with
  | some b => b.hours[h]
  | none => 0

/-- EXU takes each hood's filter hours (R145). -/
def takeHours (s : State) : State :=
  let f := updHood s hoodF fun x => { x with hours := hoursOf s.lst.block hoodF }
  updHood f hoodP fun x => { x with hours := hoursOf s.lst.block hoodP }

/-- The block in storage checked and put in force (R194). -/
def checkAtStart (s : State) : State :=
  match checkStorage s.lst.storage with
  | .inl b => acceptBlock s b
  | .inr d => rejectBlock s d

/-- The operation in flight is over. -/
def endStore (s : State) : State := { s with lst := { s.lst with op := none } }

/-- The completion of the start-up read (R194): limits judged and handed on, hours taken, CONFIG. A
completion that finds no start-up read in flight is none. -/
def completeStartRead (s : State) : State :=
  match s.lst.op with
  | some (.startRead _) => changeMode (takeHours (checkAtStart (endStore s))) .config
  | some (.write _ _) => s
  | some (.save _ _) => s
  | none => s

/-! ### LIMITS_WRITE (R195) -/

/-- The block a LIMITS_WRITE writes: the request's fields, the hours of the block as it stands, the write
count increased by 1, saturating (R193, R195). -/
def blockToWrite (s : State) (f : LimitsFields) : Block where
  hardMax := f.hardMax
  ceiling := f.ceiling
  lockoutMin := f.lockoutMin
  hours := match s.lst.block with
    | some b => b.hours
    | none => #v[0, 0]
  service := f.service
  writeCount := satAdd 65535 (writeCountOf s.lst.storage) 1

/-- The checks of LIMITS_WRITE (R195). -/
def limitsRefusal (s : State) (f : LimitsFields) : Option Reply :=
  if limitsInRange f = false then some (refused .range)
  else if s.lines.maint = false then some (refused .needsMaint)
  else if s.mdc.mode = .starting then some (refused .wrongMode)
  else if s.lst.op ≠ none then some busy
  else none

/-- LIMITS_WRITE (R195): an accepted one starts the WRITE and is answered at its completion. -/
def limitsWriteRequest (s : State) (f : LimitsFields) : State × Option Reply :=
  match limitsRefusal s f with
  | some r => (s, some r)
  | none =>
    let b := blockToWrite s f
    ({ s with lst := { s.lst with op := some (.write s.now b) } }, none)

/-- The storage holds what was written, or what the write left there instead. -/
def putStorage (s : State) (b : Block) (spoilt : Option (List Byte)) : State :=
  { s with lst := { s.lst with storage := spoilt.getD (putBlock b), op := none } }

/-- The block in storage read back after a WRITE or SAVE (R195): valid, it comes into force; invalid,
the conservative limits do with detail 3. -/
def readBack (s : State) : State :=
  match checkStorage s.lst.storage with
  | .inl b => acceptBlock s b
  | .inr _ => rejectBlock s 3

/-- The limits in force are handed to LPU, FAL, EXU and MDC after a WRITE, or a SAVE read back invalid (R195,
R196): over-temperature and running lockout timers are judged against them (R81, R139). Where both hoods'
lockout timers expire here, hood F's is taken first and is the one recorded (DESIGN CHOICE, assumption 46). -/
def handLimits (s : State) : State := expireLockout (expireLockout (judgeAllOvertemp s) hoodF) hoodP

/-- The answer of a WRITE completion (R195). -/
def writeReply (s : State) : Reply :=
  match s.lst.block with
  | some b => done (put16 b.writeCount)
  | none => ⟨.failed, Refused.limitsBad.code, []⟩

/-- The completion of a WRITE (R195) before its answer. -/
def completeWrite (s : State) (b : Block) (spoilt : Option (List Byte)) : State :=
  settle (startWaiting (handLimits (readBack (putStorage s b spoilt))))

/-- The block in storage read back after a SAVE (R196): valid, the limits in force stay and the block is the
one with the hours written; invalid, the conservative limits come into force as after a WRITE. (DEDUCED,
assumption 35.) -/
def readBackSave (s : State) : State :=
  match checkStorage s.lst.storage with
  | .inl b => { s with lst := { s.lst with block := some b } }
  | .inr _ => handLimits (rejectBlock s 3)

/-- The completion of a SAVE (R196). -/
def completeSave (s : State) (b : Block) (spoilt : Option (List Byte)) : State :=
  settle (startWaiting (readBackSave (putStorage s b spoilt)))

/-! ### LIMITS_READ (R195) -/

/-- The code of the operation in flight, numbered in the order chapter 11 names them. -/
def storeCode : Option StoreOp → Nat
  | none => 0
  | some (.startRead _) => 1
  | some (.write _ _) => 2
  | some (.save _ _) => 3

/-- The body of LIMITS_READ: limits in force, hours of the block, validity and its detail, write count,
operation in flight. DESIGN CHOICE, assumption 29. -/
def limitsBody (s : State) (x : Limits) : List Byte :=
  putAll putS16 x.hardMax ++ putAll put16 x.ceiling ++ put32 x.lockoutMin ++
    put32 (hoursOf s.lst.block hoodF) ++ put32 (hoursOf s.lst.block hoodP) ++
    putOpt (putAll put32) x.service ++ putBool s.lst.block.isSome ++ put8 s.lst.detail ++
    put16 (writeCountOf s.lst.storage) ++ put8 (storeCode s.lst.op)

/-- LIMITS_READ (R195): refused WRONG_MODE in STARTING. -/
def limitsReadRequest (s : State) : Reply :=
  if s.mdc.mode = .starting then refused .wrongMode
  else match s.lst.limits with
    | some x => done (limitsBody s x)
    | none => refused .wrongMode

end Sys2Proof.Machine
end

