-- ==== Sys2Proof/Machine/Status.lean ====
section
/-! DEFINITION. What STATUS_READ returns (R182): each section as a list of items, in the order its chapter
names them (R26, R28, R64, R87, R105, R131, R148, R166, R177, R186, R192). Widths are those of R188;
the item layouts are assumption 27. -/

namespace Sys2Proof.Machine

/-- The time left of a duration in ms, 0 once it has run out. Where a timer does not run, its remaining time is an
optional field that is absent (DESIGN CHOICE, assumption 51). -/
def left (total run : Nat) : Nat := total - run

/-- An optional number of 8, 16 or 32 bits. -/
def opt8 (o : Option Nat) : List Byte := putOpt put8 o
def opt16 (o : Option Nat) : List Byte := putOpt put16 o
def opt32 (o : Option Nat) : List Byte := putOpt put32 o
def optS16 (o : Option Int) : List Byte := putOpt putS16 o
def optByte (o : Option Byte) : List Byte := putOpt (fun b => [b]) o

/-! ### TRK and TBS -/

/-- TRK (R26). -/
def statusTrk (s : State) : List Byte :=
  put32 s.trk.pos.toNat ++ putS16 s.trk.speed ++ put8 s.trk.ring.length ++ put8 s.trk.queue.length ++
    put8 s.trk.completions.length ++ put8 s.trk.discards ++ put32 s.trk.entered.toNat ++
    put32 s.trk.completed.toNat

/-- TBS: the eleven committed-since-reset flags (R28). -/
def statusTbs (s : State) : List Byte :=
  [s.tbs.slotMap.committed, s.tbs.geometry.committed, s.tbs.loop.committed, s.tbs.gate.committed,
    s.tbs.phase.committed, s.tbs.recipe.committed, s.tbs.fluxMap.committed, s.tbs.nozzle.committed,
    s.tbs.pot.committed, s.tbs.extraction.committed, s.tbs.action.committed].flatMap putBool

/-! ### FLX (R64) -/

/-- The state of a valve: 0 closed, 1 open for a board, 2 open for a test. -/
def valveCode : Option Interval → Nat
  | none => 0
  | some iv =>
    match iv.owner with
    | .board _ => 1
    | .test => 2

def dispositionCode : Disposition → Nat
  | .noMap => 0
  | .skipped => 1
  | .toSpray => 2
  | .cut => 3

def testEndCode : TestEnd → Nat
  | .elapsed => 0
  | .stuck => 1
  | .inhibit => 2
  | .modeLeft => 3

/-- One nozzle. -/
def statusNozzle (s : State) (n : NozzleId) : List Byte :=
  let x := getNozzle s n
  put8 (valveCode x.valve) ++ putBool x.faulted ++ putOpt putNozzleEntry x.inForce ++
    putBool x.waiting.isSome

/-- The tag of the board that entered at p; 0 where it is not in the queue (assumption 27). -/
def tagOf (s : State) (p : Pos) : Nat :=
  match findBoard s p with
  | some b => b.data.tag
  | none => 0

/-- One spray account. -/
def statusAccount (s : State) (a : Account) : List Byte :=
  put16 (tagOf s a.board) ++ put8 (dispositionCode a.disposition) ++ put32 a.volume ++ putBool a.uncertain

/-- The last-test record (R63). -/
def putTestRecord (r : TestRecord) : List Byte :=
  put8 r.nozzle.val ++ put32 r.requested ++ put32 r.openFor ++ put32 r.volume ++ putBool r.doubt ++
    put8 (testEndCode r.cause)

/-- What FLX holds once. With no vapour dwell running the time remaining in it is absent, not 0 (DESIGN CHOICE,
assumption 51). -/
def statusFluxPart (s : State) : List Byte :=
  opt16 ((coveringBoard s).map fun b => b.data.tag) ++ putList (statusAccount s) s.flx.accounts ++
    putBool s.flx.fluxing ++
    opt32 (s.flx.dwellFrom.map fun t => left (vapourDwell s) (elapsed s.now t)) ++
    putBool s.flx.test.isSome ++ putOpt putTestRecord s.flx.lastTest

/-! ### LPU (R87) -/

def loopCode : LoopMode → Nat
  | .off => 0
  | .active => 1
  | .fault => 2

def classCode : SignalClass → Nat
  | .usable => 0
  | .lost => 1
  | .awaited => 2

/-- Which pot signal forms the standing PV: 0 none, 1 TEMP.PA, 2 TEMP.PB, 3 both. -/
def potPvCode : PvSource → Nat
  | .none => 0
  | .pa => 1
  | .pb => 2
  | .both => 3

/-- The settle timer's remaining time, absent where none runs (assumption 51). -/
def settleLeft (s : State) (l : LoopId) : Option Nat :=
  match (getLoop s l).settleFrom, activeLoop s l with
  | some t, some e => some (left (seconds e.settle) (elapsed s.now t))
  | _, _ => none

/-- The runaway window's PV_start and remaining time, absent where none runs (assumption 51). -/
def windowLeft (s : State) (l : LoopId) : Option (Int × Nat) :=
  match (getLoop s l).window, activeLoop s l with
  | some w, some e => some (w.pvStart, left (seconds e.runawayWindow) (elapsed s.now w.start))
  | _, _ => none

/-- One loop; loop P also shows its two signals. -/
def statusLoop (s : State) (l : LoopId) : List Byte :=
  let x := getLoop s l
  put8 (loopCode x.mode) ++ putBool x.causes.sensorLost ++ putBool x.causes.overtemp ++
    putBool x.causes.runaway ++ optS16 x.setpoint ++ opt16 x.controller ++ put16 x.ff ++ optS16 x.pv ++
    put32 x.integral ++ put16 x.demand ++ putBool x.inBand ++ putBool x.settled ++
    opt32 (settleLeft s l) ++ putOpt (fun w : Int × Nat => putS16 w.1 ++ put32 w.2) (windowLeft s l) ++
    (if l = loopP then
      put8 (classCode (classOf s sigPA)) ++ put8 (classCode (classOf s sigPB)) ++ put8 (potPvCode s.lpu.potSource)
    else [])

/-! ### FAL (R105) -/

/-- The last allocation record (R102). -/
def putAllocRecord (r : AllocRecord) : List Byte :=
  put32 r.start.toNat ++ put16 r.budget ++ putList (fun g : GateId => put8 g.val) r.granted ++
    put16 r.used ++ put32 r.denied

/-- One phase (R105). The budget is that of the latest half-cycle an accepted edge started, absent before the
first (DESIGN CHOICE, assumption 27). -/
def statusPhase (s : State) (p : PhaseId) : List Byte :=
  let x := getPhase s p
  opt32 x.frequency ++ putBool (phaseLost s p) ++
    opt32 (x.lastEdge.map fun t => elapsed s.now t) ++ opt16 x.budget ++
    putAll (fun g : GateId => put8 g.val) x.pointers ++ putOpt putAllocRecord x.last

/-- One gate. -/
def statusGate (s : State) (g : GateId) : List Byte :=
  put32 s.fal.gates[g].credit ++ putBool s.fal.gates[g].firing

/-- One loop's starvation. -/
def statusStarve (s : State) (l : LoopId) : List Byte :=
  put32 s.fal.starve[l] ++ putBool (isLive s (slotStarved l))

/-! ### POT (R131) -/

/-- The code of a pot state (R189). -/
def potCode : PotState → Nat
  | .off => 0
  | .heating => 1
  | .ready => 2
  | .setback => 3
  | .recovering => 4
  | .fault => 5

def feederCode : Feeder → Nat
  | .off => 0
  | .on _ => 1
  | .jog _ _ => 2

/-- The remaining setback delay while automatic setback is being timed (R131): the model takes that as the pot
READY, the delay not 0 and an idle reference time standing; 0 once the delay has run out (DESIGN CHOICE,
assumption 52). -/
def setbackLeft (s : State) : Option Nat :=
  match activePot s, s.pot.idleFrom with
  | some e, some t =>
    if s.pot.state = .ready ∧ e.setbackDelay ≠ 0 then
      some (left (seconds e.setbackDelay) (elapsed s.now t))
    else none
  | _, _ => none

/-- The running contact interval: tag, time in contact, wave drop. -/
def putContact (s : State) (c : Contact) : List Byte :=
  put16 c.tag ++ put32 (elapsed s.now c.start) ++ putBool c.waveDrop

/-- POT (R131). The state of a pump fault timer is the time it has run, absent while it is stopped (DESIGN
CHOICE, assumption 53). -/
def statusPot (s : State) : List Byte :=
  put8 (potCode s.pot.state) ++ opt32 (s.pot.readyAt.map fun t => t.toNat) ++ opt32 (setbackLeft s) ++
    putBool s.pot.pumpsStarted ++ put16 s.pot.chip.target ++ put16 s.pot.main.target ++
    put16 s.pot.chip.command ++ put16 s.pot.main.command ++
    opt32 (s.pot.chip.faultFrom.map fun t => elapsed s.now t) ++
    opt32 (s.pot.main.faultFrom.map fun t => elapsed s.now t) ++ putOpt (putContact s) s.pot.contact ++
    optS16 s.pot.level ++ put32 s.pot.feedOnCount ++ put8 (feederCode s.pot.feeder) ++
    putBool s.pot.feederEnabled ++ put32 s.pot.grams

/-! ### EXU (R148) -/

/-- The levels of a hood numbered in the order R134 and R135 name them: hood F 0 ACTIVE, 1 IDLE, 2 OFF, hood
P 0 HOT, 1 COOL (assumption 11). -/
def levelCode (h : HoodId) : HoodLevel → Nat
  | .full => 0
  | .reduced => 1
  | .least => if h = hoodF then 2 else 1

def fanCode : FanState → Nat
  | .running => 0
  | .stopped => 1
  | .unsupervised => 2

/-- Remaining time of the grace timer, absent where it does not run (assumption 51). -/
def graceLeft (s : State) (h : HoodId) : Option Nat :=
  match (getHood s h).graceFrom, activeExtraction s h with
  | some t, some e => some (left (seconds e.grace) (elapsed s.now t))
  | _, _ => none

/-- Direction and remaining time of the debounce timer, absent where it does not run (assumption 51). -/
def debounceLeft (s : State) (h : HoodId) : Option (Bool × Nat) :=
  match (getHood s h).debounce, activeExtraction s h with
  | some d, some e => some (d.towardLow, left (seconds e.debounce) (elapsed s.now d.start))
  | _, _ => none

/-- Remaining time of the lockout timer, absent where it does not run (assumption 51). -/
def lockoutLeft (s : State) (h : HoodId) : Option Nat :=
  match (getHood s h).lockoutFrom, activeExtraction s h with
  | some t, some e => some (left (lockoutTime s e) (elapsed s.now t))
  | _, _ => none

/-- The debounce directions numbered in the order named, LOW 0, OK 1 (assumption 11). -/
def towardCode (low : Bool) : Nat := if low then 0 else 1

/-- One hood. -/
def statusHood (s : State) (h : HoodId) : List Byte :=
  let x := getHood s h
  opt16 x.airflow ++ put8 (levelCode h x.level) ++ opt16 x.requirement ++ put16 x.fan ++
    opt32 (graceLeft s h) ++
    putOpt (fun d : Bool × Nat => put8 (towardCode d.1) ++ put32 d.2) (debounceLeft s h) ++
    opt32 (lockoutLeft s h) ++ put8 (fanCode (fanState s h)) ++ put32 x.hours ++ put32 x.accumulator ++
    putBool x.runningSince.isSome

/-- The FUME_LOCKOUT flag with its recorded hood, as one optional field (DESIGN CHOICE, assumption 27). -/
def statusLockout (s : State) : List Byte := opt8 (s.exu.lockout.map fun h => h.val)

/-! ### ILU (R166) -/

/-- The admission reasons numbered in the order of R161, NONE first. -/
def reasonCode : Reason → Nat
  | .none => 0
  | .wrongMode => 1
  | .notReady => 2
  | .action => 3
  | .noAnnouncement => 4
  | .queueFull => 5
  | .pot => 6
  | .zone => 7
  | .speed => 8
  | .flux => 9
  | .gap => 10

/-- ILU. -/
def statusIlu (s : State) : List Byte :=
  put8 s.ilu.standing ++ putBool s.ilu.notice ++ putBool s.ilu.permit ++ putBool s.ilu.convRun ++
    putBool s.ilu.bcnA ++ putBool s.ilu.bcnR ++ putBool s.ilu.entryPermit ++
    put8 (reasonCode s.ilu.reason) ++
    putOpt (fun b : NextBoard => put16 b.tag ++ put8 b.recipe.val) s.ilu.nextBoard ++
    opt32 s.ilu.requiredGap

/-! ### LNK (R177) -/

def signalCode : SignalState → Nat
  | .absent => 0
  | .valid => 1
  | .held => 2
  | .lost => 3

/-- The slot a signal id is mapped to. -/
def slotOf (s : State) (id : Nat) : Option Nat := (mapOf s id).map fun e => e.slot

/-- One consumed signal. -/
def statusSignal (s : State) (i : SignalId) : List Byte :=
  let g := signal s i
  put8 (signalCode g.state) ++ opt8 (slotOf s i.val) ++ optS16 g.value ++
    opt32 (g.fresh.map fun t => elapsed s.now t) ++ opt8 g.lastQuality ++ opt8 g.lastSeq ++
    optByte g.producer

/-- One produced signal (R177). The last produced value is none until one is kept, for ENTRY.PERMIT too, which
only TRK reads as 0 then: R178 gives both words (DESIGN CHOICE, assumption 50). -/
def statusProduced (s : State) (j : Fin 10) : List Byte :=
  opt8 (slotOf s (32 + j.val)) ++ put8 s.lnk.produced[j].seq ++
    opt16 (s.lnk.produced[j].last.map fun v => v.toNat)

/-- What LNK holds once. -/
def statusLink (s : State) : List Byte :=
  put32 s.lnk.good.toNat ++ put32 s.lnk.bad.toNat ++ put32 s.lnk.short.toNat ++ put32 s.lnk.badSince ++
    opt16 (s.lnk.lastNumber.map fun n => n.toNat) ++ put32 (elapsed s.now s.lnk.linkFrom) ++
    put32 (linkTimeoutOf s) ++ putBool (isLive s slotLinkLost) ++ putBool (isLive s slotInputHeld)

/-! ### MGE (R186) and MDC (R192) -/

/-- The reassembly state, the current record id, the expected index and the number of bytes in the buffer. The
record id is none in IDLE; the expected index, which chapter 10 gives in COLLECTING only, is an absent optional field
in IDLE and DISCARDING (DESIGN CHOICE, assumption 27). -/
def statusReassembly : Reassembly → List Byte
  | .idle => put8 0 ++ [0] ++ [0] ++ put32 0
  | .collecting rid expected buffer => put8 1 ++ [1, rid] ++ opt8 (some expected) ++ put32 buffer.length
  | .discarding rid => put8 2 ++ [1, rid] ++ [0] ++ put32 0

/-- The response record as bytes (R188), with its record CRC still to come. -/
def responseHead (r : Response) : List Byte :=
  put8 (128 + r.kind) ++ [r.rid] ++ put16 (r.body.length + 2) ++ put8 r.status.code ++ put8 r.reason ++
    r.body

/-- The response record (R188). -/
def responseBytes (r : Response) : List Byte :=
  responseHead r ++ put16 (crc16 (responseHead r)).toNat

/-- The number of segments of a record of n bytes (section 10.2). -/
def segmentCount (n : Nat) : Nat := (n + 31) / 32

/-- MGE (R186). Whether a response is held, with its two numbers of segments, is one optional field (DESIGN CHOICE,
assumption 27). -/
def statusMge (s : State) : List Byte :=
  statusReassembly s.mge.reassembly ++
    putOpt (fun r => put32 r.sent ++ put32 (segmentCount (responseBytes r).length)) s.mge.response ++
    putOpt (fun d : Byte × Nat => [d.1] ++ put8 d.2) s.mge.deferred ++ put32 s.mge.dispatched.toNat ++
    put32 s.mge.badRecords.toNat ++ put32 s.mge.discarded.toNat

/-- MDC. -/
def statusMdc (s : State) : List Byte :=
  put8 (modeCode s.mdc.mode) ++ putBool s.mdc.notReady ++
    putList (fun i : SignalId => put8 i.val) s.mdc.awaited

/-! ### Sections -/

/-- The items of a section: those held per item first, then what the block holds once. -/
def statusItems (s : State) : StatusSection → List (List Byte)
  | .trk => [statusTrk s]
  | .tbs => [statusTbs s]
  | .flx => allNozzles.map (statusNozzle s) ++ [statusFluxPart s]
  | .lpu => allLoops.map (statusLoop s)
  | .fal => allPhases.map (statusPhase s) ++ allGates.map (statusGate s) ++ allLoops.map (statusStarve s)
  | .pot => [statusPot s]
  | .exu => allHoods.map (statusHood s) ++ [statusLockout s]
  | .ilu => [statusIlu s]
  | .lnk => allSignals.map (statusSignal s) ++ allProduced.map (statusProduced s) ++ [statusLink s]
  | .mge => [statusMge s]
  | .mdc => [statusMdc s]

/-- STATUS_READ (R182): as many whole items from the first on as fit, with their number. -/
def statusRequest (s : State) (sect : StatusSection) (first : Nat) : Reply :=
  let items := statusItems s sect
  if first < items.length then done (fitted [] (items.drop first)) else refused .range

end Sys2Proof.Machine
end

