-- ==== Sys2Proof/Machine/Requests.lean ====
section
/-! DEFINITION. The requests of TRK, ILU, LPU, POT, FLX, EXU and MDC as their owners judge them: the checks
of each in the order its rule gives, the effect, and the answer. -/

namespace Sys2Proof.Machine

/-! ### TRK (R13, R14, R23, R24) -/

/-- The first check of ANNOUNCE (R13): the recipe index when every value is within its range. -/
def announceRange (s : State) (tag recipe : Nat) (expected : Option Nat) : Option RecipeId :=
  match recipeIndex recipe with
  | none => none
  | some r =>
    if 1 ≤ tag ∧ tag ≤ 65535 ∧ activeValid s r = true ∧
        (match expected with
          | some n => decide (1 ≤ n) && decide (n ≤ 60000)
          | none => true) = true then some r
    else none

/-- ANNOUNCE (R13). -/
def announceRequest (s : State) (tag recipe : Nat) (expected : Option Nat) (skip : Bool) :
    State × Reply :=
  match announceRange s tag recipe expected with
  | none => (s, refused .range)
  | some r =>
    if tagHeld s tag then (s, refused .duplicateTag)
    else if Config.ringSize ≤ s.trk.ring.length then (s, refused .ringFull)
    else (addAnnouncement s ⟨tag, r, expected, skip⟩, done (put8 (s.trk.ring.length + 1)))

/-- ANNOUNCE_WITHDRAW (R14). -/
def withdrawRequest (s : State) (tag : Nat) : State × Reply :=
  if tag = 0 then (s, refused .range)
  else if s.trk.ring.any (fun a => a.tag = tag) then
    let t := removeAnnouncement s tag
    (t, done (put8 t.trk.ring.length))
  else (s, refused .notFound)

def outcomeCode : BoardOutcome → Nat
  | .exited => 0
  | .lost => 1
  | .purged => 2

/-- The flux outcomes numbered in the order of R55. -/
def fluxCode : FluxOutcome → Nat
  | .none => 0
  | .skipped => 1
  | .cutShort => 2
  | .uncertain => 3
  | .low => 4
  | .high => 5
  | .ok => 6

/-- The flags of a board record, one yes/no byte each in the order of R15: R188 gives a set of flags no form
(DESIGN CHOICE, assumption 11). -/
def putFlags (f : BoardFlags) : List Byte :=
  putBool f.unannounced ++ putBool f.admitViolation ++ putBool f.lengthMismatch ++ putBool f.skipFlux

def putZoneEntry (e : ZoneEntry) : List Byte := putS16 e.pvMin ++ putS16 e.pvMax ++ putBool e.inBand

def putWavePart (w : WavePart) : List Byte :=
  put8 (potCode w.potState) ++ optS16 w.pvMin ++ optS16 w.pvMax ++ opt32 w.duration ++
    putBool w.dwellExceeded

/-- A board record as BOARD_READ carries it, in the order of R15; recipe NONE is an optional field that is absent
(DESIGN CHOICE, assumption 11). -/
def putBoard (b : BoardRecord) : List Byte :=
  put16 b.tag ++ opt8 (b.recipe.map fun r => r.val) ++ put32 b.pIn.toNat ++ put32 b.tIn.toNat ++
    opt32 b.len ++ opt32 b.expected ++ putFlags b.flags ++
    putOpt (fun f : FluxPart => put8 (fluxCode f.outcome) ++ put32 f.volume) b.flux ++
    putAll (putOpt putZoneEntry) b.preheat ++ putOpt putWavePart b.wave

/-- A completion record (R21). -/
def putCompletion (c : Completion) : List Byte :=
  putBoard c.data ++ put8 (outcomeCode c.outcome) ++ opt32 (c.exitTime.map fun t => t.toNat)

/-- BOARD_READ (R23): up to four oldest completion records with the discard count, then removed. -/
def boardReadRequest (s : State) : State × Reply :=
  let l := s.trk.completions.take 4
  ({ s with trk := { s.trk with completions := s.trk.completions.drop 4, discards := 0 } },
    done (put8 l.length ++ put8 s.trk.discards ++ l.flatMap putCompletion))

/-- TRACK_PURGE (R24). -/
def purgeRequest (s : State) (withdraw : Bool) : State × Reply :=
  (purge s withdraw,
    done (put8 s.trk.queue.length ++ put8 (if withdraw then s.trk.ring.length else 0)))

/-! ### ILU (R156) -/

/-- A slot as ALARM_READ returns it. -/
def putSlot (x : AlarmSlot) : List Byte := putBool x.live ++ putBool x.latched ++ putS32 x.detail

/-- The latched flag of a slot that is not live, cleared. -/
def AlarmSlot.acknowledge (x : AlarmSlot) : AlarmSlot := if x.live then x else { x with latched := false }

/-- Every slot that is not live loses its latched flag (R156). -/
def clearLatches (s : State) : State :=
  { s with ilu := { s.ilu with slots := s.ilu.slots.map AlarmSlot.acknowledge } }

/-- The number of slots that a clear would clear. -/
def clearable (s : State) : Nat := s.ilu.slots.toList.countP fun x => x.latched && !x.live

/-- ALARM_READ (R156). -/
def alarmReadRequest (s : State) (clear : Bool) : State × Reply :=
  let t := if clear then settle (clearLatches s) else s
  (t, done (putAll putSlot s.ilu.slots ++ put8 t.ilu.standing ++ putBool t.ilu.notice ++
    put8 (if clear then clearable s else 0)))

/-! ### LPU (R69, R70) -/

/-- A zone index (R69): 6, loop P, is none. -/
def zoneOf (n : Nat) : Option LoopId := if h : n < 6 then some ⟨n, by omega⟩ else none

/-- A loop index (R70). -/
def loopOf (n : Nat) : Option LoopId := if h : n < 7 then some ⟨n, h⟩ else none

/-- The answer of LOOP_SET: the loop state after it. -/
def loopReply (s : State) (l : LoopId) : Reply := done (put8 (loopCode (getLoop s l).mode))

/-- LOOP_SET ENABLE (R69). -/
def enableRequest (s : State) (n : Nat) : State × Reply :=
  match zoneOf n with
  | none => (s, refused .range)
  | some l =>
    if s.mdc.mode = .starting then (s, refused .wrongMode)
    else if s.tbs.loop.committed = false then (s, refused .notConfigured)
    else if (getLoop s l).mode = .fault ∨ loopSignalLost s l = true then (s, refused .conditions)
    else if (getLoop s l).mode = .active then (s, loopReply s l)
    else
      let t := settle (loopOn s l)
      (t, loopReply t l)

/-- LOOP_SET DISABLE (R69). -/
def disableRequest (s : State) (n : Nat) : State × Reply :=
  match zoneOf n with
  | none => (s, refused .range)
  | some l =>
    if (getLoop s l).mode = .off then (s, loopReply s l)
    else
      let t := settle (loopOff s l)
      (t, loopReply t l)

/-- Every recorded cause of a loop fault is gone (R70). -/
def causesGone (s : State) (l : LoopId) : Bool :=
  let x := getLoop s l
  (!x.causes.sensorLost ||
    (if l = loopP then classOf s sigPA = .usable || classOf s sigPB = .usable else !loopSignalLost s l)) &&
  (!x.causes.overtemp ||
    (match x.pv, hardMax s l with
      | some pv, some m => decide (pv ≤ m)
      | _, _ => false))

/-- A fault is cleared (R70): causes empty, integral 0, the loop ACTIVE; loop P's takes the pot from
FAULT to HEATING (R110). -/
def clearFault (s : State) (l : LoopId) : State :=
  let s := updLoop s l fun x => { x with mode := .active, causes := noCauses, integral := 0, demand := 0 }
  let s := lowerSlot s (slotRunaway l)
  settle (if l = loopP ∧ s.pot.state = .fault then potEnter s .heating else s)

/-- FAULT_CLEAR of a loop (R70). -/
def clearLoopRequest (s : State) (n : Nat) : State × Reply :=
  match loopOf n with
  | none => (s, refused .range)
  | some l =>
    if (getLoop s l).mode ≠ .fault then (s, done (putBool false))
    else if causesGone s l = false then (s, refused .conditions)
    else (clearFault s l, done (putBool true))

/-! ### POT (R108, R109, R112, R113, R127, R130) -/

/-- The answer of a POT_COMMAND: the pot state after it (R129). -/
def potReply (s : State) : Reply := done (put8 (potCode s.pot.state))

/-- POT_COMMAND START (R108). -/
def potStartRequest (s : State) : State × Reply :=
  if s.pot.state ≠ .off then (s, refused .conditions)
  else if s.mdc.mode = .starting then (s, refused .wrongMode)
  else if s.tbs.pot.committed = false ∨ s.tbs.loop.committed = false then (s, refused .notConfigured)
  else if classOf s sigPA = .lost ∧ classOf s sigPB = .lost then (s, refused .conditions)
  else
    let t := settle (loopOn (potEnter s .heating) loopP)
    (t, potReply t)

/-- POT_COMMAND STOP (R109). -/
def potStopRequest (s : State) : State × Reply :=
  if s.pot.state = .off then (s, potReply s)
  else
    let t := settle (potEnter s .off)
    (t, potReply t)

/-- POT_COMMAND SETBACK (R112). -/
def potSetbackRequest (s : State) : State × Reply :=
  if setbackAllowed s then
    let t := settle (potSetback s)
    (t, potReply t)
  else (s, refused .conditions)

/-- POT_COMMAND RESUME (R113). -/
def potResumeRequest (s : State) : State × Reply :=
  if s.pot.state = .setback then
    let t := settle (potRecover s)
    (t, potReply t)
  else (s, refused .conditions)

/-- The level is UNKNOWN or below the feed-off level (R130). -/
def levelBelowOff (s : State) : Bool :=
  match s.pot.level, activePot s with
  | none, _ => true
  | some l, some e => decide (l < e.feedOff)
  | some _, none => true

/-- The last check of FEEDER_JOG (R130). -/
def jogAllowed (s : State) : Bool :=
  s.pot.feeder = .off && s.pot.feederEnabled && s.pot.state.heated && feedStatusGood s && levelBelowOff s

/-- The checks of FEEDER_JOG (R130). -/
def jogRefusal (s : State) (duration : Nat) : Option Refused :=
  if duration < 100 ∨ 120000 < duration then some .range
  else if s.lines.maint = false then some .needsMaint
  else if s.mdc.mode ≠ .maintenance then some .wrongMode
  else if jogAllowed s = false then some .conditions
  else none

/-- FEEDER_JOG (R130): the feeder is in JOG, and the feed-on count is held at 0. -/
def jogRequest (s : State) (duration : Nat) : State × Reply :=
  match jogRefusal s duration with
  | some r => (s, refused r)
  | none => ({ s with pot := { s.pot with feeder := .jog s.now duration, feedOnCount := 0 } }, potReply s)

/-- FAULT_CLEAR of the feeder (R127). -/
def clearFeederRequest (s : State) (index : Nat) : State × Reply :=
  if index ≠ 0 then (s, refused .range)
  else ({ s with pot := { s.pot with feederEnabled := true, feedOnCount := 0 } },
    done (putBool (!s.pot.feederEnabled)))

/-! ### FLX (R59, R62) -/

/-- A nozzle number. -/
def nozzleOf (n : Nat) : Option NozzleId := if h : n < 8 then some ⟨n, h⟩ else none

/-- FAULT_CLEAR of a nozzle (R59). -/
def clearNozzleRequest (s : State) (n : Nat) : State × Reply :=
  match nozzleOf n with
  | none => (s, refused .range)
  | some n =>
    if s.lines.maint = false then (s, refused .needsMaint)
    else (settle (updNozzle s n fun x => { x with faulted := false }),
      done (putBool (getNozzle s n).faulted))

/-- The last check of NOZZLE_TEST (R62). -/
def testAllowed (s : State) (n : NozzleId) : Bool :=
  !(getNozzle s n).faulted && decide (s.ilu.standing < 3) &&
    (match (getNozzle s n).inForce with
      | some e => e.enabled
      | none => false)

/-- The checks of NOZZLE_TEST after its ranges (R62). -/
def testRefusal (s : State) (n : NozzleId) : Option Reply :=
  if s.lines.maint = false then some (refused .needsMaint)
  else if s.mdc.mode ≠ .maintenance then some (refused .wrongMode)
  else if s.flx.test ≠ none then some busy
  else if testAllowed s n = false then some (refused .conditions)
  else none

/-- A nozzle test begins (R62). -/
def startTest (s : State) (n : NozzleId) (duration : Nat) : State :=
  let s := openValve s n .test
  settle { s with flx := { s.flx with test := some ⟨n, duration⟩ } }

/-- NOZZLE_TEST (R62). -/
def testRequest (s : State) (nozzle duration : Nat) : State × Reply :=
  match nozzleOf nozzle with
  | none => (s, refused .range)
  | some n =>
    if duration < 1 ∨ 2000 < duration then (s, refused .range)
    else match testRefusal s n with
      | some r => (s, r)
      | none => (startTest s n duration, done [])

/-! ### EXU (R141, R147) -/

/-- A hood index: 0 is F, 1 is P. -/
def hoodOf (n : Nat) : Option HoodId := if h : n < 2 then some ⟨n, h⟩ else none

/-- The filter hours and run accumulator of a hood zeroed; a filter that counts runs on from now
(R147). -/
def zeroHours (s : State) (h : HoodId) : State :=
  updHood s h fun x => { x with
    hours := 0, accumulator := 0, runningSince := x.runningSince.map fun _ => s.now }

/-- FAULT_CLEAR of a filter (R147). -/
def clearFilterRequest (s : State) (hood : Nat) : State × Reply :=
  match hoodOf hood with
  | none => (s, refused .range)
  | some h =>
    if s.lines.maint = false then (s, refused .needsMaint)
    else (settle (handSave (zeroHours s h) h 0), done [])

/-- A hood is supplied (R141): EXTRACT_LOW not live, airflow at or above the requirement. -/
def supplied (s : State) (h : HoodId) : Bool :=
  !isLive s (slotExtractLow h) && !(getHood s h).low

/-- LOCKOUT_CLEAR (R141). -/
def lockoutClearRequest (s : State) : State × Reply :=
  if s.lines.maint = false then (s, refused .needsMaint)
  else if s.tbs.extraction.committed = false ∨ supplied s hoodF = false ∨ supplied s hoodP = false then
    (s, refused .conditions)
  else (settle (lowerSlot { s with exu := { s.exu with lockout := none } } slotLockout),
    done (putBool s.exu.lockout.isSome))

/-! ### MDC (R197) -/

/-- The code of a reset cause, numbered in the order of R197. -/
def causeCode : ResetCause → Nat
  | .powerOn => 0
  | .rstnLine => 1
  | .resetRequest => 2

/-- IDENT_READ (R197). The strap address is 8 bits, as the addresses of a frame are, and the three codes 32: R188
names no width for either (DESIGN CHOICE, assumption 11). -/
def identRequest (s : State) : Reply :=
  done (put32 Config.vendorCode ++ put32 Config.partCode ++ put32 Config.revision ++
    put8 s.mdc.strap.toNat ++ put8 (causeCode s.mdc.cause))

end Sys2Proof.Machine
end

