-- ==== Sys2Proof/Machine/Records.lean ====
section
/-! DEFINITION. The Management Engine (chapter 10): requests, the form of their bodies, dispatch, the
response buffer, the deferred answer, reassembly and segments. -/

namespace Sys2Proof.Machine

/-! ### Requests (R182) -/

/-- A dispatched request with its operands; `unnamed` is a request of a kind whose enumerated field names
nothing, which its owner refuses RANGE (R181). -/
inductive Request
  | tableRead (table : Nat) (copy : CopyName) (first : Target) (count : Nat)
  | tableStage (items : StageRequest)
  | tableCommit (table : Nat)
  | tableDiscard (table : Nat)
  | announce (tag recipe : Nat) (expected : Option Nat) (skipFlux : Bool)
  | announceWithdraw (tag : Nat)
  | boardRead
  | alarmRead (clear : Bool)
  | statusRead (sect : StatusSection) (first : Nat)
  | modeSet (target : Nat)
  | loopEnable (loop : Nat)
  | loopDisable (loop : Nat)
  | potStart
  | potStop
  | potSetback
  | potResume
  | feederJog (duration : Nat)
  | trackPurge (withdraw : Bool)
  | clearLoop (loop : Nat)
  | clearNozzle (nozzle : Nat)
  | clearFilter (hood : Nat)
  | clearFeeder (index : Nat)
  | lockoutClear
  | nozzleTest (nozzle duration : Nat)
  | limitsRead
  | limitsWrite (fields : LimitsFields)
  | identRead
  | reset
  | unnamed (kind : Nat)
  deriving DecidableEq, Repr

/-- The kind code of a request (R182). -/
def Request.kind : Request → Nat
  | .tableRead _ _ _ _ => 1
  | .tableStage _ => 2
  | .tableCommit _ => 3
  | .tableDiscard _ => 4
  | .announce _ _ _ _ => 5
  | .announceWithdraw _ => 6
  | .boardRead => 7
  | .alarmRead _ => 8
  | .statusRead _ _ => 9
  | .modeSet _ => 10
  | .loopEnable _ => 11
  | .loopDisable _ => 11
  | .potStart => 12
  | .potStop => 12
  | .potSetback => 12
  | .potResume => 12
  | .feederJog _ => 12
  | .trackPurge _ => 13
  | .clearLoop _ => 14
  | .clearNozzle _ => 14
  | .clearFilter _ => 14
  | .clearFeeder _ => 14
  | .lockoutClear => 15
  | .nozzleTest _ _ => 16
  | .limitsRead => 17
  | .limitsWrite _ => 18
  | .identRead => 19
  | .reset => 20
  | .unnamed k => k

/-- An answer made at once. -/
def atOnce (r : State × Reply) : State × Option Reply := (r.1, some r.2)

/-- A request that changes nothing. -/
def reading (s : State) (r : Reply) : State × Option Reply := (s, some r)

/-- The owner's judgement of a request (R182): the state after it and the answer. RESET has none, and
neither has an accepted LIMITS_WRITE, whose answer is deferred (R184). -/
def runRequest (s : State) : Request → State × Option Reply
  | .tableRead t c f n => reading s (readRequest s t c f n)
  | .tableStage q => atOnce (stageRequest s q)
  | .tableCommit t => atOnce (commitRequest s t)
  | .tableDiscard t => atOnce (discardRequest s t)
  | .announce tag r e k => atOnce (announceRequest s tag r e k)
  | .announceWithdraw tag => atOnce (withdrawRequest s tag)
  | .boardRead => atOnce (boardReadRequest s)
  | .alarmRead c => atOnce (alarmReadRequest s c)
  | .statusRead sec f => reading s (statusRequest s sec f)
  | .modeSet t => atOnce (modeRequest s t)
  | .loopEnable l => atOnce (enableRequest s l)
  | .loopDisable l => atOnce (disableRequest s l)
  | .potStart => atOnce (potStartRequest s)
  | .potStop => atOnce (potStopRequest s)
  | .potSetback => atOnce (potSetbackRequest s)
  | .potResume => atOnce (potResumeRequest s)
  | .feederJog d => atOnce (jogRequest s d)
  | .trackPurge w => atOnce (purgeRequest s w)
  | .clearLoop l => atOnce (clearLoopRequest s l)
  | .clearNozzle n => atOnce (clearNozzleRequest s n)
  | .clearFilter h => atOnce (clearFilterRequest s h)
  | .clearFeeder i => atOnce (clearFeederRequest s i)
  | .lockoutClear => atOnce (lockoutClearRequest s)
  | .nozzleTest n d => atOnce (testRequest s n d)
  | .limitsRead => reading s (limitsReadRequest s)
  | .limitsWrite f => limitsWriteRequest s f
  | .identRead => reading s (identRequest s)
  | .reset => (s, none)
  | .unnamed _ => reading s (refused .range)

/-! ### The response buffer and the deferred answer (R183, R184) -/

/-- One more response discarded, when there was one. -/
def discardsIf (c : Bool) (n : Count) : Count := if c then n + 1 else n

/-- The held response and the deferred answer dropped, each counted (R180, R183, R184). -/
def Mge.drop (m : Mge) : Mge :=
  { m with
    response := none
    deferred := none
    discarded := discardsIf m.deferred.isSome (discardsIf m.response.isSome m.discarded) }

/-- A response placed in the buffer; one still held is discarded unsent (R183). -/
def Mge.place (m : Mge) (r : Response) : Mge :=
  { m with response := some r, discarded := discardsIf m.response.isSome m.discarded }

/-- A BAD_RECORD answer (R180, R181): it replaces a held response, drops a deferred answer and is
counted. -/
def Mge.bad (m : Mge) (rid : Byte) (why : BadRecord) : Mge :=
  { m.drop with
    response := some ⟨rid, 0, .badRecord, why.code, [], 0⟩
    badRecords := m.badRecords + 1 }

/-- A state with its Management Engine changed. -/
def updMge (s : State) (f : Mge → Mge) : State := { s with mge := f s.mge }

/-- The answer of an owner becomes the response (R183). -/
def answer (s : State) (rid : Byte) (kind : Nat) (r : Reply) : State :=
  updMge s fun m => m.place ⟨rid, kind, r.status, r.reason, r.body, 0⟩

/-- A request dispatched (R182): counted, judged by its owner, answered. An accepted LIMITS_WRITE leaves a
deferred answer (R184). -/
def dispatch (s : State) (rid : Byte) (q : Request) : State :=
  let s := updMge s fun m => { m with dispatched := m.dispatched + 1 }
  match runRequest s q with
  | (t, some r) => answer t rid q.kind r
  | (t, none) =>
    if q.kind = 18 then updMge t fun m => { m with deferred := some (rid, 18) } else t

/-- A request record arriving whole (assumption 3): its index 0 drops what was held, and it is
dispatched. -/
def arriveWhole (s : State) (rid : Byte) (q : Request) : State :=
  dispatch (updMge s fun m => { m.drop with reassembly := .idle }) rid q

/-- The deferred answer of a WRITE completion, when it is still held (R184). -/
def answerDeferred (s : State) (r : Reply) : State :=
  match s.mge.deferred with
  | none => s
  | some (rid, kind) => answer (updMge s fun m => { m with deferred := none }) rid kind r

/-! ### The bodies of requests (R181 check 5, R188; field order is assumption 11) -/

/-- A body with no fields. -/
def noFields (q : Request) : Reader Request := pure q

/-- The copy a code names: 0 STAGED, 1 ACTIVE. -/
def copyOf : Nat → Option CopyName
  | 0 => some .staged
  | 1 => some .active
  | _ => none

/-- The section a code names, numbered from 0 in the order of R182. -/
def sectionOf : Nat → Option StatusSection
  | 0 => some .trk
  | 1 => some .tbs
  | 2 => some .flx
  | 3 => some .lpu
  | 4 => some .fal
  | 5 => some .pot
  | 6 => some .exu
  | 7 => some .ilu
  | 8 => some .lnk
  | 9 => some .mge
  | 10 => some .mdc
  | _ => none

/-- The section is held per item, so that its request carries a first item (R182). -/
def perItem : StatusSection → Bool
  | .flx => true
  | .lpu => true
  | .fal => true
  | .exu => true
  | .lnk => true
  | .trk => false
  | .tbs => false
  | .pot => false
  | .ilu => false
  | .mge => false
  | .mdc => false

/-- The request, or one whose enumerated field names nothing. -/
def orUnnamed (kind : Nat) : Option Request → Request
  | some q => q
  | none => .unnamed kind

/-- The rest of a body that check 5 does not judge (R181). -/
def unjudged (q : Request) : Reader Request := fun _ => some (q, [])

def getTableRead : Reader Request := do
  let table ← get8
  let c ← get8
  let first ← get8
  let count ← get32
  return orUnnamed 1 ((copyOf c).map fun copy => .tableRead table copy (targetOf first) count)

def getAnnounce : Reader Request := do
  let tag ← get16
  let recipe ← get8
  let expected ← getOpt get32
  let skip ← getBool
  return orUnnamed 5 (skip.map fun k => .announce tag recipe expected k)

/-- The section's request after its section byte. -/
def getFirstItem (sec : StatusSection) : Reader Request := do
  let first ← get8
  return .statusRead sec first

def getStatusRead : Reader Request := do
  let n ← get8
  match sectionOf n with
  | none => unjudged (.unnamed 9)
  | some sec => if perItem sec then getFirstItem sec else pure (.statusRead sec 0)

/-- LOOP_SET: loop, then action 0 ENABLE or 1 DISABLE. -/
def getLoopSet : Reader Request := do
  let l ← get8
  let a ← get8
  return (match a with
    | 0 => .loopEnable l
    | 1 => .loopDisable l
    | _ => .unnamed 11)

/-- POT_COMMAND: action 0 START, 1 STOP, 2 SETBACK, 3 RESUME, 4 FEEDER_JOG with its duration. -/
def getPotCommand : Reader Request := do
  let a ← get8
  match a with
  | 0 => return .potStart
  | 1 => return .potStop
  | 2 => return .potSetback
  | 3 => return .potResume
  | 4 => do
    let d ← get32
    return .feederJog d
  | _ => unjudged (.unnamed 12)

/-- FAULT_CLEAR: target class 0 LOOP, 1 NOZZLE, 2 FILTER, 3 FEEDER, then an index. -/
def getFaultClear : Reader Request := do
  let c ← get8
  let i ← get8
  return (match c with
    | 0 => .clearLoop i
    | 1 => .clearNozzle i
    | 2 => .clearFilter i
    | 3 => .clearFeeder i
    | _ => .unnamed 14)

def getNozzleTest : Reader Request := do
  let n ← get8
  let d ← get32
  return .nozzleTest n d

/-- The reader of the body of a kind; none where the kind code names no request (R182). -/
def bodyReader : Nat → Option (Reader Request)
  | 1 => some getTableRead
  | 2 => some do return .tableStage (← getStage)
  | 3 => some do return .tableCommit (← get8)
  | 4 => some do return .tableDiscard (← get8)
  | 5 => some getAnnounce
  | 6 => some do return .announceWithdraw (← get16)
  | 7 => some (noFields .boardRead)
  | 8 => some do return orUnnamed 8 ((← getBool).map .alarmRead)
  | 9 => some getStatusRead
  | 10 => some do return .modeSet (← get8)
  | 11 => some getLoopSet
  | 12 => some getPotCommand
  | 13 => some do return orUnnamed 13 ((← getBool).map .trackPurge)
  | 14 => some getFaultClear
  | 15 => some (noFields .lockoutClear)
  | 16 => some getNozzleTest
  | 17 => some (noFields .limitsRead)
  | 18 => some do return .limitsWrite (← getLimitsFields)
  | 19 => some (noFields .identRead)
  | 20 => some (noFields .reset)
  | _ => none

/-! ### Checking a record (R181) -/

/-- What the checks of R181 give. -/
inductive Checked
  | bad (why : BadRecord)
  | unknownKind (kind : Nat)
  | request (q : Request)
  deriving DecidableEq, Repr

/-- The unsigned value of two bytes, most significant first. -/
def word (hi lo : Byte) : Nat := hi.toNat * 256 + lo.toNat

/-- The last two bytes of a byte sequence as a value. -/
def lastWord (l : List Byte) : Nat := word (l.getD (l.length - 2) 0) (l.getD (l.length - 1) 0)

/-- The length check (R181 check 1). -/
def lengthOk (l : List Byte) : Bool :=
  decide (6 ≤ l.length) && decide (l.length = 4 + word (l.getD 2 0) (l.getD 3 0) + 2)

/-- The CRC check (R181 check 2). -/
def recordCrcOk (l : List Byte) : Bool := (crc16 (l.take (l.length - 2))).toNat = lastWord l

/-- The five checks of R181 in order. -/
def checkRecord (rid : Byte) (l : List Byte) : Checked :=
  let kind := (l.getD 0 0).toNat
  if lengthOk l = false then .bad .length
  else if recordCrcOk l = false then .bad .crc
  else if 128 ≤ kind ∨ l.getD 1 0 ≠ rid then .bad .format
  else match bodyReader kind with
    | none => .unknownKind kind
    | some r =>
      match readWhole r ((l.take (l.length - 2)).drop 4) with
      | some q => .request q
      | none => .bad .format

/-- A complete record checked, and dispatched or answered (R181). -/
def completeRecord (s : State) (rid : Byte) (l : List Byte) : State :=
  match checkRecord rid l with
  | .bad why => updMge s fun m => m.bad rid why
  | .unknownKind k => answer s rid k ⟨.unknownKind, 0, []⟩
  | .request q => dispatch s rid q

/-- The record is a RESET request (R184). -/
def isReset (rid : Byte) (l : List Byte) : Bool := checkRecord rid l = .request .reset

/-! ### Segments (R180) -/

/-- A request segment. -/
structure Segment where
  rid : Byte
  index : Nat
  last : Bool
  length : Nat
  payload : List Byte
  deriving DecidableEq, Repr

/-- Malformed (R180). -/
def Segment.malformed (g : Segment) : Bool :=
  decide (g.length = 0) || decide (32 < g.length) || (decide (g.index = 15) && !g.last)

/-- What a segment does to the reassembly (R180). -/
inductive Taken
  /-- the record is not complete yet -/
  | collect (fresh : Bool) (expected : Nat) (buffer : List Byte)
  /-- the record is complete -/
  | complete (fresh : Bool) (record : List Byte)
  /-- BAD_RECORD and DISCARDING -/
  | reject (why : BadRecord)
  /-- a segment dropped silently -/
  | ignore
  deriving DecidableEq, Repr

/-- The table of R180. -/
def takeSegment (r : Reassembly) (g : Segment) : Taken :=
  if g.malformed then .reject .length
  else if g.index = 0 then
    (if g.last then .complete true g.payload else .collect true 1 g.payload)
  else match r with
    | .idle => .reject .sequence
    | .discarding _ => .ignore
    | .collecting rid expected buffer =>
      if g.index = expected ∧ g.rid = rid then
        (if g.last then .complete false (buffer ++ g.payload)
         else .collect false (expected + 1) (buffer ++ g.payload))
      else .reject .sequence

/-- An index 0 drops what is held. -/
def Mge.start (m : Mge) (fresh : Bool) : Mge := if fresh then m.drop else m

/-- A request segment taken (R180). -/
def segmentArrives (s : State) (g : Segment) : State :=
  match takeSegment s.mge.reassembly g with
  | .collect fresh expected buffer =>
    updMge s fun m => { m.start fresh with reassembly := .collecting g.rid expected buffer }
  | .complete fresh record =>
    completeRecord (updMge s fun m => { m.start fresh with reassembly := .idle }) g.rid record
  | .reject why => updMge s fun m => { m.bad g.rid why with reassembly := .discarding g.rid }
  | .ignore => s

/-- The segment completes a RESET request. -/
def segmentResets (s : State) (g : Segment) : Bool :=
  match takeSegment s.mge.reassembly g with
  | .complete _ record => isReset g.rid record
  | .collect _ _ _ => false
  | .reject _ => false
  | .ignore => false

/-! ### Response segments (R183) -/

/-- The management area that carries the next segment of a response: record id, last flag and index,
payload length, and the payload filled with zeros (R188). -/
def segmentArea (r : Response) : List Byte :=
  let l := responseBytes r
  let payload := (l.drop (32 * r.sent)).take 32
  let lastFlag := if r.sent + 1 = segmentCount l.length then 128 else 0
  [r.rid] ++ put8 (lastFlag + r.sent) ++ put8 payload.length ++ payload ++
    List.replicate (32 - payload.length) 0

/-- The response after one segment more has been sent: dropped from the buffer once all have. -/
def afterSegment (r : Response) : Option Response :=
  if segmentCount (responseBytes r).length ≤ r.sent + 1 then none else some { r with sent := r.sent + 1 }

end Sys2Proof.Machine
end

