-- ==== Sys2Proof/Machine/Resets.lean ====
section
/-! DEFINITION. Resets (R197): power-on, warm, and the RSTN line. -/

namespace Sys2Proof.Machine

/-- The storage after a warm reset: a WRITE or SAVE in flight runs to its completion in it (R197). -/
def storageCompleted (s : State) : List Byte :=
  match s.lst.op with
  | some (.write _ b) => putBlock b
  | some (.save _ b) => putBlock b
  | some (.startRead _) => s.lst.storage
  | none => s.lst.storage

/-- A WRITE or SAVE is in flight. -/
def writing (s : State) : Bool :=
  match s.lst.op with
  | some (.write _ _) => true
  | some (.save _ _) => true
  | some (.startRead _) => false
  | none => false

/-- A warm reset of the given cause (R197): the storage with any write completed, the FUME_LOCKOUT flag
and the frame last forwarded stay; all else takes its reset value. -/
def warmReset (s : State) (cause : ResetCause) : State :=
  let t := State.afterReset s.lines (storageCompleted s) s.exu.lockout cause s.freeIndex s.pending
  { t with lnk := { t.lnk with down := s.lnk.down } }

/-- A power-on reset (R197): the lockout flag clears; a write that supply was lost in leaves what no rule
gives (assumption 6). -/
def powerOnReset (s : State) : State :=
  if writing s then
    State.afterReset s.lines (Config.tornBlock s.freeIndex) none .powerOn (s.freeIndex + 1) s.pending
  else State.afterReset s.lines s.lst.storage none .powerOn s.freeIndex s.pending

/-- The RSTN line becomes active (R197): the part is held. -/
def assertRstn (s : State) : State := { s with lines := { s.lines with rstn := true } }

/-- The RSTN line is released (R197): the warm reset is carried out. -/
def releaseRstn (s : State) : State :=
  if s.lines.rstn then warmReset { s with lines := { s.lines with rstn := false } } .rstnLine else s

end Sys2Proof.Machine
end

