-- ==== Sys2Proof/Machine/Frames.lean ====
section
/-! DEFINITION. Frames (chapter 9 and R187, R189): parsing, the five stages of a good frame, bad frames. -/

namespace Sys2Proof.Machine

/-! ### Layout (R187) -/

/-- A slot of a frame. -/
structure Slot where
  value : BitVec 16
  seq : Nat
  quality : Nat
  producer : Byte
  deriving DecidableEq, Repr

/-- A good frame: number, area state and address, slots in order, and the 35 bytes of the management
area when there is one. -/
structure Frame where
  number : BitVec 16
  areaState : Nat
  areaAddr : Byte
  slots : List Slot
  area : List Byte
  deriving DecidableEq, Repr

/-- The slot four bytes carry. -/
def slotOfBytes (a b c d : Byte) : Slot :=
  ⟨BitVec.ofNat 16 (word a b), c.toNat / 16, c.toNat % 16, d⟩

/-- The slots of a byte sequence whose length is a multiple of four. -/
def slotsOf : List Byte → List Slot
  | a :: b :: c :: d :: l => slotOfBytes a b c d :: slotsOf l
  | _ => []

/-- The bytes of a slot. -/
def putSlotBytes (x : Slot) : List Byte :=
  put16 x.value.toNat ++ put8 (x.seq * 16 + x.quality) ++ [x.producer]

/-- The length of the management area of an area state. -/
def areaLength (state : Nat) : Nat := if state = 0 then 0 else 35

/-- The frame's bytes before its CRC field. -/
def frameBody (f : Frame) : List Byte :=
  put16 f.number.toNat ++ put8 f.slots.length ++ put8 f.areaState ++ [f.areaAddr] ++
    f.slots.flatMap putSlotBytes ++ f.area

/-- The frame's bytes with the CRC computed afresh (R169 stage 5). -/
def frameBytes (f : Frame) : List Byte := frameBody f ++ put16 (crc16 (frameBody f)).toNat

/-- The header and CRC checks of R168 on the bytes received. -/
def frameGood (l : List Byte) : Bool :=
  let count := (l.getD 2 0).toNat
  let state := (l.getD 3 0).toNat
  decide (7 ≤ l.length) && decide (count ≤ 64) && decide (state ≤ 3) &&
    decide (l.length = 5 + 4 * count + areaLength state + 2) && recordCrcOk l

/-- The fields of a good frame. -/
def readFrame (l : List Byte) : Frame :=
  let count := (l.getD 2 0).toNat
  let state := (l.getD 3 0).toNat
  { number := BitVec.ofNat 16 (word (l.getD 0 0) (l.getD 1 0))
    areaState := state
    areaAddr := l.getD 4 0
    slots := slotsOf ((l.drop 5).take (4 * count))
    area := (l.drop (5 + 4 * count)).take (areaLength state) }

/-! ### Stage 1: consumed slots (R170, R171) -/

/-- A temperature signal (R170). -/
def isTemperature (i : SignalId) : Bool := decide (i.val < 8)

/-- A signal read as signed (R172). -/
def isSigned (i : SignalId) : Bool :=
  decide (i.val < 8) || decide (i.val = 9) || decide (i.val = 13) || decide (i.val = 14)

/-- The value of a slot as the signal reads it (R172). -/
def slotValue (i : SignalId) (x : Slot) : Int := if isSigned i then x.value.toInt else x.value.toNat

/-- A temperature slot that makes the signal LOST at once (R170): quality OPEN or RANGE, or a VALID value
outside the range of a sample. -/
def breaksSignal (i : SignalId) (x : Slot) : Bool :=
  isTemperature i && (decide (x.quality = 1) || decide (x.quality = 2) ||
    (decide (x.quality = 0) && (decide (slotValue i x < -500) || decide (6000 < slotValue i x))))

/-- A slot read for a mapped consumed signal: the first line of R170's table that applies. -/
def readSlot (s : State) (i : SignalId) (x : Slot) : State :=
  let s := updSignal s i fun g => { g with lastQuality := some x.quality }
  if breaksSignal i x then (if (signal s i).state = .lost then s else becomeLost s i)
  else if x.quality = 0 ∧ (signal s i).lastSeq ≠ some x.seq then
    freshSample s i (slotValue i x) x.seq x.producer
  else s

/-- The slot of a consumed signal read from a frame, when it is mapped and present. -/
def readConsumed (f : Frame) (s : State) (i : SignalId) : State :=
  match (slotOf s i.val).bind fun n => f.slots[n]? with
  | some x => readSlot s i x
  | none => s

/-- A mapped slot, consumed or produced, lies beyond the frame's slot count (R170). -/
def isShort (s : State) (f : Frame) : Bool :=
  s.tbs.slotMap.active.entries.toList.any fun e =>
    match e with
    | some m => decide (f.slots.length ≤ m.slot)
    | none => false

/-- Stage 1 of a good frame; the signals of one frame are taken in order of their ids (assumption 19). -/
def stageConsume (s : State) (f : Frame) : State :=
  let s := if isShort s f then { s with lnk := { s.lnk with short := s.lnk.short + 1 } } else s
  allSignals.foldl (readConsumed f) s

/-! ### Stage 3: produced slots (R174, R189) -/

/-- A 0 or 1 value. -/
def flag (b : Bool) : Nat := if b then 1 else 0

/-- STATUS.WORD (R189). -/
def statusWord (s : State) : Nat :=
  modeCode s.mdc.mode + 4 * potCode s.pot.state + 32 * flag s.ilu.notice + 64 * flag s.ilu.entryPermit +
    128 * flag s.mdc.notReady + 256 * flag s.exu.lockout.isSome + 512 * s.ilu.standing

/-- ALARM.SUMMARY (R189). -/
def alarmSummary (s : State) : Nat := s.ilu.standing + 256 * unmaskedLatched s

/-- The current value of a produced signal (R174), by its place from id 32 on. -/
def producedValue (s : State) (j : Fin 10) : Nat :=
  match j.val with
  | 0 => s.pot.chip.command
  | 1 => s.pot.main.command
  | 2 => flag (s.pot.feeder ≠ .off)
  | 3 => (getHood s hoodF).fan
  | 4 => (getHood s hoodP).fan
  | 5 => flag s.ilu.convRun
  | 6 => flag s.ilu.entryPermit
  | 7 => statusWord s
  | 8 => alarmSummary s
  | _ => speedCommand s.tbs.pot.active

/-- The strap address is an address (R197): 0 and 63 are none. -/
def hasAddress (s : State) : Bool := s.mdc.strap ≠ 0 && s.mdc.strap ≠ 63

/-- The address the part writes and answers to; 0 where the straps give none (R197). -/
def nodeAddress (s : State) : Byte := if hasAddress s then s.mdc.strap.setWidth 8 else 0

/-- The produced record of ENTRY.PERMIT at a frame that does not carry it (R174). -/
def notWritten (s : State) (j : Fin 10) : State :=
  if j = 6 then
    let p := upd s.lnk.produced j fun x => { x with last := some 0 }
    { s with lnk := { s.lnk with produced := p } }
  else s

/-- One produced signal written into the frame (R174). -/
def writeProduced (x : State × List Slot) (j : Fin 10) : State × List Slot :=
  let (s, l) := x
  match slotOf s (32 + j.val) with
  | none => (notWritten s j, l)
  | some n =>
    if l.length ≤ n then (notWritten s j, l)
    else
      let v := BitVec.ofNat 16 (producedValue s j)
      let q := (s.lnk.produced[j].seq + 1) % 16
      let p := upd s.lnk.produced j fun _ => ⟨q, some v⟩
      ({ s with lnk := { s.lnk with produced := p } }, l.set n ⟨v, q, 0, nodeAddress s⟩)

/-- Stage 3 of a good frame. -/
def stageProduce (s : State) (f : Frame) : State × Frame :=
  let r := allProduced.foldl writeProduced (s, f.slots)
  (r.1, { f with slots := r.2 })

/-! ### Stage 4: the management area (R179, R183) -/

/-- The segment a management area carries (R188). -/
def segmentOf (area : List Byte) : Segment :=
  let h := (area.getD 1 0).toNat
  let n := (area.getD 2 0).toNat
  ⟨area.getD 0 0, h % 16, decide (128 ≤ h), n, (area.drop 3).take n⟩

/-- The area carries a request segment for this part (R179). -/
def addressed (s : State) (f : Frame) : Bool :=
  decide (f.areaState = 2) && hasAddress s && decide (f.areaAddr = nodeAddress s)

/-- The frame with its area marked FREE and emptied (R179). -/
def freed (f : Frame) : Frame := { f with areaState := 1, areaAddr := 0, area := List.replicate 35 0 }

/-- A FREE area takes the next segment of a held response (R183). -/
def offerArea (s : State) (f : Frame) : State × Frame :=
  if f.areaState = 1 then
    match s.mge.response with
    | none => (s, f)
    | some r =>
      (updMge s fun m => { m with response := afterSegment r },
        { f with areaState := 3, areaAddr := nodeAddress s, area := segmentArea r })
  else (s, f)

/-- Stage 4 of a good frame: a request segment is taken and its area freed, then a FREE area may take a
response segment. -/
def stageManage (s : State) (f : Frame) : State × Frame :=
  if addressed s f then offerArea (segmentArrives s (segmentOf f.area)) (freed f)
  else offerArea s f

/-- Stage 4 completes a RESET request. -/
def frameResets (s : State) (f : Frame) : Bool := addressed s f && segmentResets s (segmentOf f.area)

/-! ### A frame -/

/-- What the arrival of a good frame does before stage 1 (R169, R175). -/
def goodArrival (s : State) (f : Frame) : State :=
  let s := { s with lnk := { s.lnk with
    linkFrom := s.now, lastNumber := some f.number, badSince := 0, good := s.lnk.good + 1 } }
  settle (lowerSlot s slotLinkLost)

/-- Stages 1 to 3 of a good frame. -/
def goodStages (s : State) (f : Frame) : State × Frame :=
  stageProduce (settle (rampPumps (stageConsume (goodArrival s f) f))) f

/-- Stage 5: the frame is forwarded. The record of it is the model's (DESIGN CHOICE, assumption 30). -/
def forward (s : State) (l : List Byte) : State := { s with lnk := { s.lnk with down := l } }

/-- A good frame (R169). A RESET that its last segment completed is carried out once the frame has been
forwarded (R184). -/
def goodFrame (s : State) (f : Frame) : State :=
  let (s, f) := goodStages s f
  let (t, g) := stageManage s f
  let t := forward t (frameBytes g)
  if frameResets s f then warmReset t .resetRequest else t

/-- A bad frame (R168): counted, and forwarded as it came. -/
def badFrame (s : State) (l : List Byte) : State :=
  forward { s with lnk := { s.lnk with
    bad := s.lnk.bad + 1, badSince := satAdd 65535 s.lnk.badSince 1 } } l

/-- A frame arrives on UP (R168). -/
def frameArrives (s : State) (l : List Byte) : State :=
  if frameGood l then goodFrame s (readFrame l) else badFrame s l

end Sys2Proof.Machine
end

