-- ==== Sys2Proof/Machine/Timers.lean ====
section
/-! DEFINITION. What remains of the timers: the expiries that no other file gives, and the ones due at a
moment, which a tick of the machine time queues (assumption 1). -/

namespace Sys2Proof.Machine

/-! ### Sampling points (R7) -/

/-- Machine time stands at a sampling point. -/
def sampleDue (s : State) : Bool := decide (s.now = s.trk.nextSample)

/-- A sampling point (R7): the speed from the travel since the last one. The next one stands 250 ms on, also
where machine time wraps (DESIGN CHOICE, assumption 41). -/
def takeSpeed (s : State) : State :=
  settleSpeed { s with trk := { s.trk with
    speed := signedDiff s.trk.pos s.trk.sampledPos * 24
    sampledPos := s.trk.pos
    nextSample := s.trk.nextSample + BitVec.ofNat 32 Config.sampleInterval } }

/-! ### Zero-cross edges and phase loss (R89 to R91) -/

/-- An accepted edge (R90): PHASE_LOST clears, and the half-cycle starts. The clearing is settled before the
stages (DESIGN CHOICE, assumption 28). -/
def startHalfCycle (s : State) (p : PhaseId) : State :=
  settle (halfCycle (acceptEdge (settle (lowerSlot s (slotPhaseLost p))) p) p)

/-- The loss expiry of a phase (R91). -/
def losePhase (s : State) (p : PhaseId) : State :=
  settle (idlePhase (raiseSlot s (slotPhaseLost p) 0) p)

/-! ### ESTOP (R152) -/

/-- An edge of the ESTOP line: slot 0 follows it, and PERMIT is judged again. -/
def estopEdge (s : State) (level : Bool) : State :=
  settle (judgeSlot { s with lines := { s.lines with estop := level } } slotEstop level 0)

/-! ### Valves (R58, R63) -/

/-- A valve has been open for its max open time. -/
def stuckDue (s : State) (n : NozzleId) : Bool :=
  match (getNozzle s n).valve with
  | some iv => decide (iv.maxOpen ≤ elapsed s.now iv.openedAt)
  | none => false

/-- A test whose valve is stuck ends (R63). -/
def endStuckTest (s : State) (n : NozzleId) : State :=
  match s.flx.test with
  | some t => if t.nozzle = n then endTest s .stuck else s
  | none => s

/-- The stuck-valve expiry (R58): the valve closes, the nozzle is faulted, NOZZLE_STUCK latches. -/
def stickValve (s : State) (n : NozzleId) : State :=
  let s := updNozzle (closeValve (endStuckTest s n) n) n fun x => { x with faulted := true }
  settle (latchSlot s slotNozzleStuck n.val)

/-- A running test has reached its duration (R63). -/
def testDue (s : State) : Bool :=
  match s.flx.test with
  | none => false
  | some t =>
    match (getNozzle s t.nozzle).valve with
    | some iv => decide (t.duration ≤ elapsed s.now iv.openedAt)
    | none => false

/-! ### Pumps (R118) -/

/-- The fault condition of a pump has held for 2,000 ms and its alarm is not live. -/
def pumpFaultDue (s : State) (p : Pump) : Bool :=
  match (getPump s p).faultFrom with
  | some t => decide (Config.pumpFaultTime ≤ elapsed s.now t) && !isLive s (slotPumpFault p)
  | none => false

/-- WAVE_PUMP_FAULT becomes live, with the feedback's latest value or 0 (R118). -/
def faultPump (s : State) (p : Pump) : State :=
  settle (raiseSlot s (slotPumpFault p) ((latest s (sigPump p)).getD 0))

/-! ### Storage operations (R194 to R196) -/

/-- The operation in flight has taken the longest time it may, as the tick completes it (assumption
15). -/
def storeDue (s : State) : Option Instr :=
  match s.lst.op with
  | none => none
  | some (.startRead t) => if Config.storeTime ≤ elapsed s.now t then some .startReadCompletion else none
  | some (.write t _) => if Config.storeTime ≤ elapsed s.now t then some (.writeCompletion none) else none
  | some (.save t _) => if Config.storeTime ≤ elapsed s.now t then some (.saveCompletion none) else none

/-! ### What is due (assumption 1) -/

/-- A command for each index whose expiry is due. -/
def dueFor {α : Type} (l : List α) (due : α → Bool) (f : α → Instr) : List Instr :=
  (l.filter due).map f

/-- A command when its expiry is due. -/
def dueIf (due : Bool) (i : Instr) : List Instr := if due then [i] else []

/-- The setback delay runs out at this moment (R111). -/
def setbackDue (s : State) : Bool :=
  s.pot.state = .ready &&
    (match activePot s, s.pot.idleFrom with
      | some e, some t => decide (e.setbackDelay ≠ 0) && decide (elapsed s.now t = seconds e.setbackDelay)
      | _, _ => false)

/-- Due expiries of the link and of the mains. -/
def dueLink (s : State) : List Instr :=
  dueIf (sampleDue s) .speedSample ++ dueIf (linkDue s) .linkTimeout ++
    dueFor allSignals (holdDue s) .holdTimeExpiry ++ dueFor allSignals (lostDue s) .lostTimeExpiry ++
    dueFor allSignals (absentDue s) .absentTimeout ++ dueFor allPhases (phaseLossDue s) .phaseLossExpiry

/-- Due expiries of the flux bar and of the loops. -/
def dueProcess (s : State) : List Instr :=
  dueFor allNozzles (stuckDue s) .stuckValveExpiry ++ dueIf (testDue s) .nozzleTestElapsed ++
    dueIf (dwellOver s) .vapourDwellExpiry ++ dueFor allLoops (runawayDue s) .runawayWindowExpiry ++
    dueFor allLoops (settleDue s) .settleTimerExpiry

/-- Due expiries of the pot. -/
def duePot (s : State) : List Instr :=
  dueIf (setbackDue s) .setbackDelayExpiry ++
    dueFor [Pump.chip, Pump.main] (pumpFaultDue s) .pumpFaultTimerExpiry ++
    dueIf (dwellDue s) .dwellExpiry ++ dueIf (maxRunDue s) .feederMaxRunExpiry ++
    dueIf (jogDue s) .feederJogExpiry

/-- Due expiries of the hoods and of the storage. -/
def dueRest (s : State) : List Instr :=
  dueFor allHoods (graceDue s) .graceExpiry ++ dueFor allHoods (debounceDue s) .debounceExpiry ++
    dueFor allHoods (lockoutDue s) .lockoutTimerExpiry ++ dueFor allHoods (tenthDue s) .filterTenthHour ++
    (storeDue s).toList

/-- Every expiry due, in the order a tick queues them (assumption 1). -/
def dueNow (s : State) : List Instr := dueLink s ++ dueProcess s ++ duePot s ++ dueRest s

/-- A tick of the machine time: one millisecond passes, and what it makes due is queued. Machine time
stands while the part is held in reset (assumption 14). -/
def tick (s : State) : State :=
  if s.lines.rstn then s
  else
    let s := { s with now := s.now + 1 }
    { s with pending := s.pending ++ dueNow s }

end Sys2Proof.Machine
end

