-- ==== Sys2Proof/Machine/ExecResets.lean ====
section
/-! DEFINITION. The meanings of the reset commands, and the guard every other command stands behind: while
RSTN is active the part is held in reset (R197, assumption 13). -/

namespace Sys2Proof.Machine

/-- What a command answers. -/
abbrev Out := Host.Outcome State Fault Refusal

/-- A command's effect, unless the part is held in reset. -/
def unlessHeld (s : State) (f : State → State) : Out := .next (if s.lines.rstn then s else f s)

/-- A command's effect when its cause stands; otherwise the command changes nothing (assumption 2). -/
def ifDue (due : Bool) (s t : State) : State := if due then t else s

/-- POWER_ON_RESET (R197). -/
def execPowerOnReset (s : State) : Out := .next (powerOnReset s)

/-- RSTN_RESET: the RSTN line is released (R197). -/
def execRstnReset (s : State) : Out := .next (releaseRstn s)

/-- RSTN_ASSERTION: the RSTN line becomes active (R197). -/
def execRstnAssertion (s : State) : Out := .next (assertRstn s)

/-- RESET: the request's warm reset (R184, R197). -/
def execReset (_rid : Byte) (s : State) : Out := unlessHeld s fun s => warmReset s .resetRequest

end Sys2Proof.Machine
end

