-- ==== Sys2Proof/Machine/ExecLines.lean ====
section
/-! DEFINITION. The meanings of the edges of the direct input lines. A level the line has already is no
edge (assumption 21); while the part is held in reset a line's level alone is followed (assumption 13). -/

namespace Sys2Proof.Machine

/-- The state with its lines changed. -/
def updLines (s : State) (f : Lines → Lines) : State := { s with lines := f s.lines }

/-- ENCODER_COUNT (R4, R5): the pair (ENCA, ENCB) takes a new state. -/
def execEncoderCount (a b : Bool) (s : State) : Out :=
  unlessHeld (updLines s fun l => { l with encA := a, encB := b }) fun t =>
    applyCount t (quadCount s.lines.encA s.lines.encB a b)

/-- The entry eye's CLEAR → PENDING (R8). -/
def entryActivated (s : State) : State :=
  match s.trk.entryEye with
  | .clear => { s with trk := { s.trk with entryEye := .pending s.trk.pos s.now } }
  | .pending _ _ => s
  | .confirmed => s

/-- ENTRY_EYE_ACTIVATION (R8). -/
def execEntryEyeActivation (s : State) : Out :=
  if s.lines.bes then .next s
  else unlessHeld (updLines s fun l => { l with bes := true }) entryActivated

/-- The entry eye to CLEAR (R8, R10): a pending activation is discarded; from CONFIRMED the trailing edge
of the record awaiting it is fixed. -/
def entryDeactivated (s : State) : State :=
  let t := { s with trk := { s.trk with entryEye := .clear, awaiting := none } }
  match s.trk.entryEye, s.trk.awaiting with
  | .confirmed, some p => fixLength t p
  | _, _ => t

/-- ENTRY_EYE_DEACTIVATION (R8, R10). -/
def execEntryEyeDeactivation (s : State) : Out :=
  if s.lines.bes then unlessHeld (updLines s fun l => { l with bes := false }) entryDeactivated
  else .next s

/-- The exit eye's CLEAR → PENDING (R8). -/
def exitActivated (s : State) : State :=
  match s.trk.exitEye with
  | .clear => { s with trk := { s.trk with exitEye := .pending s.trk.pos s.now } }
  | .pending _ _ => s
  | .confirmed => s

/-- EXIT_EYE_ACTIVATION (R8). -/
def execExitEyeActivation (s : State) : Out :=
  if s.lines.bxs then .next s
  else unlessHeld (updLines s fun l => { l with bxs := true }) exitActivated

/-- The exit eye to CLEAR (R8). -/
def exitDeactivated (s : State) : State := { s with trk := { s.trk with exitEye := .clear } }

/-- EXIT_EYE_DEACTIVATION (R8). -/
def execExitEyeDeactivation (s : State) : Out :=
  if s.lines.bxs then unlessHeld (updLines s fun l => { l with bxs := false }) exitDeactivated
  else .next s

/-- ZERO_CROSS_EDGE (R89, R90). -/
def execZeroCrossEdge (p : PhaseId) (s : State) : Out :=
  unlessHeld s fun s => ifDue (edgeAccepted s p) s (startHalfCycle s p)

/-- ESTOP_EDGE (R152, R158). -/
def execEstopEdge (level : Bool) (s : State) : Out :=
  if s.lines.estop = level then .next s
  else unlessHeld (updLines s fun l => { l with estop := level }) fun s => estopEdge s level

/-- MAINT_LINE_EDGE (R191). -/
def execMaintLineEdge (level : Bool) (s : State) : Out :=
  if s.lines.maint = level then .next s
  else unlessHeld (updLines s fun l => { l with maint := level }) fun s => maintEdge s level

end Sys2Proof.Machine
end

