-- ==== Sys2Proof/Machine/ExecRequests.lean ====
section
/-! DEFINITION. The meanings of the request commands: each is the request record arriving whole and being
dispatched to its owner (R181, R182, assumption 3). RESET stands with the resets. -/

namespace Sys2Proof.Machine

/-- TABLE_READ (R31). -/
def execTableRead (rid : Byte) (table : Nat) (copy : CopyName) (first : Target) (count : Nat) (s : State) : Out :=
  unlessHeld s fun s => arriveWhole s rid (.tableRead table copy first count)

/-- TABLE_STAGE (R29). -/
def execTableStage (rid : Byte) (items : StageRequest) (s : State) : Out :=
  unlessHeld s fun s => arriveWhole s rid (.tableStage items)

/-- TABLE_COMMIT (R32). -/
def execTableCommit (rid : Byte) (table : Nat) (s : State) : Out :=
  unlessHeld s fun s => arriveWhole s rid (.tableCommit table)

/-- TABLE_DISCARD (R30). -/
def execTableDiscard (rid : Byte) (table : Nat) (s : State) : Out :=
  unlessHeld s fun s => arriveWhole s rid (.tableDiscard table)

/-- ANNOUNCE (R13). -/
def execAnnounce (rid : Byte) (tag recipe : Nat) (expected : Option Nat) (skipFlux : Bool) (s : State) : Out :=
  unlessHeld s fun s => arriveWhole s rid (.announce tag recipe expected skipFlux)

/-- ANNOUNCE_WITHDRAW (R14). -/
def execAnnounceWithdraw (rid : Byte) (tag : Nat) (s : State) : Out :=
  unlessHeld s fun s => arriveWhole s rid (.announceWithdraw tag)

/-- BOARD_READ (R23). -/
def execBoardRead (rid : Byte) (s : State) : Out :=
  unlessHeld s fun s => arriveWhole s rid .boardRead

/-- ALARM_READ (R156). -/
def execAlarmRead (rid : Byte) (clear : Bool) (s : State) : Out :=
  unlessHeld s fun s => arriveWhole s rid (.alarmRead clear)

/-- STATUS_READ (R182). -/
def execStatusRead (rid : Byte) (sect : StatusSection) (first : Nat) (s : State) : Out :=
  unlessHeld s fun s => arriveWhole s rid (.statusRead sect first)

/-- MODE_SET (R190). -/
def execModeSet (rid : Byte) (target : Nat) (s : State) : Out :=
  unlessHeld s fun s => arriveWhole s rid (.modeSet target)

/-- LOOP_SET ENABLE (R69). -/
def execLoopSetEnable (rid : Byte) (loop : Nat) (s : State) : Out :=
  unlessHeld s fun s => arriveWhole s rid (.loopEnable loop)

/-- LOOP_SET DISABLE (R69). -/
def execLoopSetDisable (rid : Byte) (loop : Nat) (s : State) : Out :=
  unlessHeld s fun s => arriveWhole s rid (.loopDisable loop)

/-- POT_COMMAND START (R108). -/
def execPotCommandStart (rid : Byte) (s : State) : Out :=
  unlessHeld s fun s => arriveWhole s rid .potStart

/-- POT_COMMAND STOP (R109). -/
def execPotCommandStop (rid : Byte) (s : State) : Out :=
  unlessHeld s fun s => arriveWhole s rid .potStop

/-- POT_COMMAND SETBACK (R112). -/
def execPotCommandSetback (rid : Byte) (s : State) : Out :=
  unlessHeld s fun s => arriveWhole s rid .potSetback

/-- POT_COMMAND RESUME (R113). -/
def execPotCommandResume (rid : Byte) (s : State) : Out :=
  unlessHeld s fun s => arriveWhole s rid .potResume

/-- POT_COMMAND FEEDER_JOG (R130). -/
def execFeederJog (rid : Byte) (duration : Nat) (s : State) : Out :=
  unlessHeld s fun s => arriveWhole s rid (.feederJog duration)

/-- TRACK_PURGE (R24). -/
def execTrackPurge (rid : Byte) (withdraw : Bool) (s : State) : Out :=
  unlessHeld s fun s => arriveWhole s rid (.trackPurge withdraw)

/-- FAULT_CLEAR of a loop (R70). -/
def execFaultClearLoop (rid : Byte) (loop : Nat) (s : State) : Out :=
  unlessHeld s fun s => arriveWhole s rid (.clearLoop loop)

/-- FAULT_CLEAR of a nozzle (R59). -/
def execFaultClearNozzle (rid : Byte) (nozzle : Nat) (s : State) : Out :=
  unlessHeld s fun s => arriveWhole s rid (.clearNozzle nozzle)

/-- FAULT_CLEAR of a filter (R147). -/
def execFaultClearFilter (rid : Byte) (hood : Nat) (s : State) : Out :=
  unlessHeld s fun s => arriveWhole s rid (.clearFilter hood)

/-- FAULT_CLEAR of the feeder (R127). -/
def execFaultClearFeeder (rid : Byte) (index : Nat) (s : State) : Out :=
  unlessHeld s fun s => arriveWhole s rid (.clearFeeder index)

/-- LOCKOUT_CLEAR (R141). -/
def execLockoutClear (rid : Byte) (s : State) : Out :=
  unlessHeld s fun s => arriveWhole s rid .lockoutClear

/-- NOZZLE_TEST (R62). -/
def execNozzleTest (rid : Byte) (nozzle duration : Nat) (s : State) : Out :=
  unlessHeld s fun s => arriveWhole s rid (.nozzleTest nozzle duration)

/-- LIMITS_READ (R195). -/
def execLimitsRead (rid : Byte) (s : State) : Out :=
  unlessHeld s fun s => arriveWhole s rid .limitsRead

/-- LIMITS_WRITE (R195). -/
def execLimitsWrite (rid : Byte) (fields : LimitsFields) (s : State) : Out :=
  unlessHeld s fun s => arriveWhole s rid (.limitsWrite fields)

/-- IDENT_READ (R197). -/
def execIdentRead (rid : Byte) (s : State) : Out :=
  unlessHeld s fun s => arriveWhole s rid .identRead

end Sys2Proof.Machine
end

