-- ==== Sys2Proof/Machine/ExecTimers.lean ====
section
/-! DEFINITION. The meanings of the timer expiries and of the storage completions. An expiry whose timer
is not running, or not due, changes nothing (assumption 2). -/

namespace Sys2Proof.Machine

/-- SPEED_SAMPLE (R7). -/
def execSpeedSample (s : State) : Out := unlessHeld s fun s => ifDue (sampleDue s) s (takeSpeed s)

/-- PHASE_LOSS_EXPIRY (R91). -/
def execPhaseLossExpiry (p : PhaseId) (s : State) : Out :=
  unlessHeld s fun s => ifDue (phaseLossDue s p) s (losePhase s p)

/-- HOLD_TIME_EXPIRY (R171). -/
def execHoldTimeExpiry (i : SignalId) (s : State) : Out :=
  unlessHeld s fun s => ifDue (holdDue s i) s (becomeHeld s i)

/-- LOST_TIME_EXPIRY (R171). -/
def execLostTimeExpiry (i : SignalId) (s : State) : Out :=
  unlessHeld s fun s => ifDue (lostDue s i) s (becomeLost s i)

/-- ABSENT_TIMEOUT (R171). -/
def execAbsentTimeout (i : SignalId) (s : State) : Out :=
  unlessHeld s fun s => ifDue (absentDue s i) s (becomeLost s i)

/-- LINK_TIMEOUT (R175). -/
def execLinkTimeout (s : State) : Out :=
  unlessHeld s fun s => ifDue (linkDue s) s (settle (expireLink s))

/-- STUCK_VALVE_EXPIRY (R58). -/
def execStuckValveExpiry (n : NozzleId) (s : State) : Out :=
  unlessHeld s fun s => ifDue (stuckDue s n) s (stickValve s n)

/-- VAPOUR_DWELL_EXPIRY (R61). -/
def execVapourDwellExpiry (s : State) : Out :=
  unlessHeld s fun s => ifDue (dwellOver s) s (settle (expireDwell s))

/-- NOZZLE_TEST_ELAPSED (R63). -/
def execNozzleTestElapsed (s : State) : Out :=
  unlessHeld s fun s => ifDue (testDue s) s (settle (endTest s .elapsed))

/-- RUNAWAY_WINDOW_EXPIRY (R83). -/
def execRunawayWindowExpiry (l : LoopId) (s : State) : Out :=
  unlessHeld s fun s => ifDue (runawayDue s l) s (settle (expireWindow s l))

/-- SETTLE_TIMER_EXPIRY (R85). -/
def execSettleTimerExpiry (l : LoopId) (s : State) : Out :=
  unlessHeld s fun s => ifDue (settleDue s l) s (settle (expireSettle s l))

/-- SETBACK_DELAY_EXPIRY (R111). -/
def execSetbackDelayExpiry (s : State) : Out :=
  unlessHeld s fun s => ifDue (setbackHolds s) s (settle (potSetback s))

/-- PUMP_FAULT_TIMER_EXPIRY (R118). -/
def execPumpFaultTimerExpiry (p : Pump) (s : State) : Out :=
  unlessHeld s fun s => ifDue (pumpFaultDue s p) s (faultPump s p)

/-- DWELL_EXPIRY (R121). -/
def execDwellExpiry (s : State) : Out :=
  unlessHeld s fun s => ifDue (dwellDue s) s (settle (expireContactDwell s))

/-- FEEDER_MAX_RUN_EXPIRY (R127). -/
def execFeederMaxRunExpiry (s : State) : Out :=
  unlessHeld s fun s => ifDue (maxRunDue s) s (settle (expireMaxRun s))

/-- FEEDER_JOG_EXPIRY (R130). -/
def execFeederJogExpiry (s : State) : Out :=
  unlessHeld s fun s => ifDue (jogDue s) s (settle (endJog s))

/-- GRACE_EXPIRY (R137). -/
def execGraceExpiry (h : HoodId) (s : State) : Out :=
  unlessHeld s fun s => ifDue (graceDue s h) s (settle (expireGrace s h))

/-- DEBOUNCE_EXPIRY (R138). -/
def execDebounceExpiry (h : HoodId) (s : State) : Out :=
  unlessHeld s fun s => ifDue (debounceDue s h) s (settle (expireDebounce s h))

/-- LOCKOUT_TIMER_EXPIRY (R139, R140). -/
def execLockoutTimerExpiry (h : HoodId) (s : State) : Out :=
  unlessHeld s fun s => ifDue (lockoutDue s h) s (settle (expireLockout s h))

/-- FILTER_TENTH_HOUR (R144). -/
def execFilterTenthHour (h : HoodId) (s : State) : Out :=
  unlessHeld s fun s => ifDue (tenthDue s h) s (settle (accrue s h))

/-- START_READ_COMPLETION (R194). -/
def execStartReadCompletion (s : State) : Out := unlessHeld s completeStartRead

/-- WRITE_COMPLETION (R195): the write in flight completes and its answer is made. -/
def execWriteCompletion (spoilt : Option (List Byte)) (s : State) : Out :=
  unlessHeld s fun s =>
    match s.lst.op with
    | some (.write _ b) =>
      let t := completeWrite s b spoilt
      answerDeferred t (writeReply t)
    | _ => s

/-- SAVE_COMPLETION (R196): the save in flight completes. -/
def execSaveCompletion (spoilt : Option (List Byte)) (s : State) : Out :=
  unlessHeld s fun s =>
    match s.lst.op with
    | some (.save _ b) => completeSave s b spoilt
    | _ => s

/-- FRAME_ARRIVAL (R168, R169). -/
def execFrameArrival (bytes : List Byte) (s : State) : Out :=
  unlessHeld s fun s => frameArrives s bytes

end Sys2Proof.Machine
end

