-- ==== Sys2Proof/Machine/Dispatch.lean ====
section
/-! DEFINITION. Dispatch: one arm per command, each one direct call of its meaning. -/

namespace Sys2Proof.Machine

def exec (i : Instr) (s : State) : Host.Outcome State Fault Refusal :=
  match i with
  | .powerOnReset => Sys2Proof.Machine.execPowerOnReset s
  | .rstnReset => Sys2Proof.Machine.execRstnReset s
  | .startReadCompletion => Sys2Proof.Machine.execStartReadCompletion s
  | .encoderCount a b => Sys2Proof.Machine.execEncoderCount a b s
  | .entryEyeActivation => Sys2Proof.Machine.execEntryEyeActivation s
  | .entryEyeDeactivation => Sys2Proof.Machine.execEntryEyeDeactivation s
  | .exitEyeActivation => Sys2Proof.Machine.execExitEyeActivation s
  | .exitEyeDeactivation => Sys2Proof.Machine.execExitEyeDeactivation s
  | .speedSample => Sys2Proof.Machine.execSpeedSample s
  | .zeroCrossEdge phase => Sys2Proof.Machine.execZeroCrossEdge phase s
  | .phaseLossExpiry phase => Sys2Proof.Machine.execPhaseLossExpiry phase s
  | .estopEdge level => Sys2Proof.Machine.execEstopEdge level s
  | .maintLineEdge level => Sys2Proof.Machine.execMaintLineEdge level s
  | .frameArrival bytes => Sys2Proof.Machine.execFrameArrival bytes s
  | .holdTimeExpiry signal => Sys2Proof.Machine.execHoldTimeExpiry signal s
  | .lostTimeExpiry signal => Sys2Proof.Machine.execLostTimeExpiry signal s
  | .absentTimeout signal => Sys2Proof.Machine.execAbsentTimeout signal s
  | .linkTimeout => Sys2Proof.Machine.execLinkTimeout s
  | .stuckValveExpiry nozzle => Sys2Proof.Machine.execStuckValveExpiry nozzle s
  | .vapourDwellExpiry => Sys2Proof.Machine.execVapourDwellExpiry s
  | .nozzleTestElapsed => Sys2Proof.Machine.execNozzleTestElapsed s
  | .runawayWindowExpiry loop => Sys2Proof.Machine.execRunawayWindowExpiry loop s
  | .settleTimerExpiry loop => Sys2Proof.Machine.execSettleTimerExpiry loop s
  | .setbackDelayExpiry => Sys2Proof.Machine.execSetbackDelayExpiry s
  | .pumpFaultTimerExpiry pump => Sys2Proof.Machine.execPumpFaultTimerExpiry pump s
  | .dwellExpiry => Sys2Proof.Machine.execDwellExpiry s
  | .feederMaxRunExpiry => Sys2Proof.Machine.execFeederMaxRunExpiry s
  | .feederJogExpiry => Sys2Proof.Machine.execFeederJogExpiry s
  | .graceExpiry hood => Sys2Proof.Machine.execGraceExpiry hood s
  | .debounceExpiry hood => Sys2Proof.Machine.execDebounceExpiry hood s
  | .lockoutTimerExpiry hood => Sys2Proof.Machine.execLockoutTimerExpiry hood s
  | .filterTenthHour hood => Sys2Proof.Machine.execFilterTenthHour hood s
  | .writeCompletion spoilt => Sys2Proof.Machine.execWriteCompletion spoilt s
  | .saveCompletion spoilt => Sys2Proof.Machine.execSaveCompletion spoilt s
  | .tableRead rid table copy first count => Sys2Proof.Machine.execTableRead rid table copy first count s
  | .tableStage rid items => Sys2Proof.Machine.execTableStage rid items s
  | .tableCommit rid table => Sys2Proof.Machine.execTableCommit rid table s
  | .tableDiscard rid table => Sys2Proof.Machine.execTableDiscard rid table s
  | .announce rid tag recipe expected skipFlux => Sys2Proof.Machine.execAnnounce rid tag recipe expected skipFlux s
  | .announceWithdraw rid tag => Sys2Proof.Machine.execAnnounceWithdraw rid tag s
  | .boardRead rid => Sys2Proof.Machine.execBoardRead rid s
  | .alarmRead rid clear => Sys2Proof.Machine.execAlarmRead rid clear s
  | .statusRead rid sect first => Sys2Proof.Machine.execStatusRead rid sect first s
  | .modeSet rid target => Sys2Proof.Machine.execModeSet rid target s
  | .loopSetEnable rid loop => Sys2Proof.Machine.execLoopSetEnable rid loop s
  | .loopSetDisable rid loop => Sys2Proof.Machine.execLoopSetDisable rid loop s
  | .potCommandStart rid => Sys2Proof.Machine.execPotCommandStart rid s
  | .potCommandStop rid => Sys2Proof.Machine.execPotCommandStop rid s
  | .potCommandSetback rid => Sys2Proof.Machine.execPotCommandSetback rid s
  | .potCommandResume rid => Sys2Proof.Machine.execPotCommandResume rid s
  | .feederJog rid duration => Sys2Proof.Machine.execFeederJog rid duration s
  | .trackPurge rid withdraw => Sys2Proof.Machine.execTrackPurge rid withdraw s
  | .faultClearLoop rid loop => Sys2Proof.Machine.execFaultClearLoop rid loop s
  | .faultClearNozzle rid nozzle => Sys2Proof.Machine.execFaultClearNozzle rid nozzle s
  | .faultClearFilter rid hood => Sys2Proof.Machine.execFaultClearFilter rid hood s
  | .faultClearFeeder rid index => Sys2Proof.Machine.execFaultClearFeeder rid index s
  | .lockoutClear rid => Sys2Proof.Machine.execLockoutClear rid s
  | .nozzleTest rid nozzle duration => Sys2Proof.Machine.execNozzleTest rid nozzle duration s
  | .limitsRead rid => Sys2Proof.Machine.execLimitsRead rid s
  | .limitsWrite rid fields => Sys2Proof.Machine.execLimitsWrite rid fields s
  | .identRead rid => Sys2Proof.Machine.execIdentRead rid s
  | .reset rid => Sys2Proof.Machine.execReset rid s
  | .rstnAssertion => Sys2Proof.Machine.execRstnAssertion s

end Sys2Proof.Machine
end

