-- ==== Sys2Proof/Machine/Step.lean ====
section
/-! DEFINITION. One step: the command at the front of the queue, or on an empty queue a tick of the machine
time. -/

namespace Sys2Proof.Machine

/-- The state whose queue is the rest. -/
def State.withPending (s : State) (rest : List Instr) : State := { s with pending := rest }

/-- One step. On an empty queue one millisecond of machine time passes and the expiries it makes due are
queued (DESIGN CHOICE, assumption 1). Commands that arrive together stand in the queue in one order
(assumption 32), and each is one step (assumption 39). -/
def step (s : State) : Host.Outcome State Fault Refusal :=
  match s.pending with
  | [] => .next (tick s)
  | i :: rest => exec i (s.withPending rest)

/-- The state with the command a word spells at the front of its queue; unchanged where the word spells
none, as every word does. -/
def State.withFetchWord (s : State) (nbits w : Nat) : State :=
  match decodeTableWord nbits w with
  | some i => { s with pending := i :: s.pending }
  | none => s

end Sys2Proof.Machine
end

