-- ==== Sys2Proof/Safety.lean ====
section
/-! DEFINITION. The terms the statements use: the laws the data sheet names as kept, each as a predicate on a
state; what a request leaves in MGE; the parts of the state that an event of the process leaves alone; what a
moment makes due; what a fresh sample brings about; and the ranges of the staged tables. -/

namespace Sys2Proof.Safety

open Sys2Proof.Machine

/-! ### Events and answers -/

/-- The part is not held in reset: the RSTN line is inactive (R197). -/
abbrev Running (s : State) : Prop := s.lines.rstn = false

/-- A count increased by one for what is present. -/
def countIf (c : Bool) (n : Count) : Count := if c then n + 1 else n

/-- MGE after a whole request record of a kind has been dispatched and answered at once: its index 0 dropped
the held response and the deferred answer and counted each (R180, R183, R184), its dispatch is counted
(R182), and the answer is held with no segment sent (R183). -/
def answered (s : State) (rid : Byte) (kind : Nat) (r : Reply) : Mge where
  reassembly := .idle
  response := some ⟨rid, kind, r.status, r.reason, r.body, 0⟩
  deferred := none
  dispatched := s.mge.dispatched + 1
  badRecords := s.mge.badRecords
  discarded := countIf s.mge.deferred.isSome (countIf s.mge.response.isSome s.mge.discarded)

/-- The state of a request that changes nothing but MGE: a read, or a request refused (R185: "A refusal
leaves the owner's state as it stood before the request"). -/
def onlyAnswered (s : State) (rid : Byte) (kind : Nat) (r : Reply) : State :=
  { s with mge := answered s rid kind r }

/-- A request is answered and changes nothing but MGE, in which the response now held is the answer, with no
segment sent (R183). -/
def OnlyAnswers (o : Host.Outcome State Fault Refusal) (s : State) (rid : Byte) (kind : Nat) (r : Reply) :
    Prop :=
  ∃ m : Mge, o = .next { s with mge := m } ∧
    m.response = some ⟨rid, kind, r.status, r.reason, r.body, 0⟩

/-- The three resets, each where it is carried out: a power-on reset, the release of an active RSTN line, a
RESET request of a part that runs (R197). -/
inductive Resets (s : State) : Instr → Prop
  | powerOn : Resets s .powerOnReset
  | rstnLine : s.lines.rstn = true → Resets s .rstnReset
  | request (rid : Byte) : s.lines.rstn = false → Resets s (.reset rid)

/-- What no event of the process touches: the lines, the machine time, the tables, the signals and frames of
the link, the mode, the zero-cross state of the phases, the limits and their storage. -/
structure Untouched (s t : State) : Prop where
  lines : t.lines = s.lines
  now : t.now = s.now
  tbs : t.tbs = s.tbs
  lnk : t.lnk = s.lnk
  mdc : t.mdc = s.mdc
  phases : t.fal.phases = s.fal.phases
  storage : t.lst.storage = s.lst.storage
  limits : t.lst.limits = s.lst.limits
  block : t.lst.block = s.lst.block
  freeIndex : t.freeIndex = s.freeIndex
  pending : t.pending = s.pending

/-- `Untouched`, with the tracking state and MGE as they were too. -/
structure ProcessOnly (s t : State) : Prop extends Untouched s t where
  trk : t.trk = s.trk
  mge : t.mge = s.mge

/-- The slots whose condition the model judges again after every event, because its owner's events are
those that can change it: SENSOR_LOST, WAVE_PUMP_FAULT, FLUX_PRESSURE_LOW, FAN_NOT_RUNNING,
FILTER_SERVICE_DUE and CONVEYOR_SPEED. -/
def Judged (k : SlotId) : Prop :=
  (8 ≤ k.val ∧ k.val ≤ 14) ∨ k.val = 40 ∨ k.val = 41 ∨ k.val = 43 ∨ k.val = 52 ∨ k.val = 53 ∨ k.val = 55 ∨
    k.val = 60

/-- Every slot that is not judged after every event, and is not among those named, is as it was. -/
def SlotsKept (s t : State) (named : List SlotId) : Prop :=
  ∀ k : SlotId, ¬ Judged k → k ∉ named → t.ilu.slots[k] = s.ilu.slots[k]

/-- A loop's state, causes, PV, integral, demand and runaway window are as they were. -/
def LoopKept (s t : State) (l : LoopId) : Prop :=
  (getLoop t l).mode = (getLoop s l).mode ∧ (getLoop t l).causes = (getLoop s l).causes ∧
    (getLoop t l).pv = (getLoop s l).pv ∧ (getLoop t l).integral = (getLoop s l).integral ∧
    (getLoop t l).demand = (getLoop s l).demand ∧ (getLoop t l).window = (getLoop s l).window

/-- Every loop but those named is as it was. -/
def LoopsKept (s t : State) (named : List LoopId) : Prop := ∀ l : LoopId, l ∉ named → LoopKept s t l

/-- The pot's state, times, contact, level, feeder and commands are as they were. -/
structure PotKept (s t : State) : Prop where
  state : t.pot.state = s.pot.state
  readyAt : t.pot.readyAt = s.pot.readyAt
  idleFrom : t.pot.idleFrom = s.pot.idleFrom
  contact : t.pot.contact = s.pot.contact
  level : t.pot.level = s.pot.level
  feeder : t.pot.feeder = s.pot.feeder
  feederEnabled : t.pot.feederEnabled = s.pot.feederEnabled
  grams : t.pot.grams = s.pot.grams
  chip : t.pot.chip.command = s.pot.chip.command
  main : t.pot.main.command = s.pot.main.command

/-- The lockout flag, and the airflow and lockout timer of each hood, are as they were. -/
def HoodsKept (s t : State) : Prop :=
  t.exu.lockout = s.exu.lockout ∧ ∀ h : HoodId, (getHood t h).airflow = (getHood s h).airflow ∧
    (getHood t h).lockoutFrom = (getHood s h).lockoutFrom

/-- Every nozzle's fault flag is as it was, but for those named. -/
def FaultsKept (s t : State) (named : List NozzleId) : Prop :=
  ∀ n : NozzleId, n ∉ named → (getNozzle t n).faulted = (getNozzle s n).faulted

/-- Gate g is IDLE with credit 0 (R94). -/
def gateStopped (s : State) (g : GateId) : Prop := s.fal.gates[g] = ⟨0, false⟩

/-- The gates are as they were, or all stopped, which PERMIT becoming inactive does (R94). -/
def GatesKept (s t : State) : Prop := t.fal.gates = s.fal.gates ∨ ∀ g : GateId, gateStopped t g

/-- What the judgements that follow every event leave as it was. -/
structure SettledFrame (s t : State) : Prop where
  process : ProcessOnly s t
  loops : LoopsKept s t []
  pot : PotKept s t
  hoods : HoodsKept s t
  nozzles : FaultsKept s t []
  slots : SlotsKept s t []
  starve : t.fal.starve = s.fal.starve
  gates : GatesKept s t

/-- What an event of the process leaves beside its subject: every loop but those named, the lockout flag, the
hoods' airflow and lockout timers, the fault flag of every nozzle but those named, every slot that is neither
judged nor named, the starve counter of every loop but those named; and each gate is as it was or stopped. -/
structure Framed (s t : State) (ks : List SlotId) (ls : List LoopId) (ns : List NozzleId) : Prop where
  loops : LoopsKept s t ls
  hoods : HoodsKept s t
  nozzles : FaultsKept s t ns
  slots : SlotsKept s t ks
  starve : ∀ l : LoopId, l ∉ ls → t.fal.starve[l] = s.fal.starve[l]
  gates : ∀ g : GateId, t.fal.gates[g] = s.fal.gates[g] ∨ gateStopped t g

/-- The slots an event of tracking can latch or clear. -/
def trackSlots : List SlotId :=
  [slotReverse, slotTrackOverflow, slotBoardLost, slotPhantom, slotAdmitViolation, slotOverrun, slotFluxTol,
    slotWaveNotReady]

/-- The place of the pair (ENCA, ENCB) after a forward count (R4). -/
def nextPair : Bool × Bool → Bool × Bool
  | (false, false) => (true, false)
  | (true, false) => (true, true)
  | (true, true) => (false, true)
  | (false, true) => (false, false)

/-- No board's spray window is open and no valve is. -/
def BarIdle (s : State) : Prop :=
  (∀ b ∈ s.trk.queue, b.windows.spray ≠ .opened) ∧ ∀ n : NozzleId, (getNozzle s n).valve = none

/-- A copy and a table that are all EMPTY, never committed (R47). -/
def EmptyTable {H E : Type} {n : Nat} (t : Table H E n) : Prop :=
  t.staged.header = none ∧ t.active.header = none ∧ (∀ i : Fin n, t.staged.entries[i] = none) ∧
    (∀ i : Fin n, t.active.entries[i] = none) ∧ t.committed = false

/-- A table with its staged copy made active (R32). -/
def committedTable {H E : Type} {n : Nat} (t : Table H E n) : Table H E n := ⟨t.staged, t.staged, true⟩

/-- A table with its active copy over its staged copy (R30). -/
def discardedTable {H E : Type} {n : Nat} (t : Table H E n) : Table H E n :=
  ⟨t.active, t.active, t.committed⟩

/-- The sum of the load currents of some gates (R98, R102). -/
def loadSum (s : State) (l : List GateId) : Nat := (l.map (loadOf s)).sum

/-! ### What a moment makes due (R7, R58 and each timer's own rule) -/

/-- The feeder has been on, or in jog, since a moment (R127). -/
def FedSince (s : State) (t0 : Time) : Prop := s.pot.feeder = .on t0 ∨ ∃ d, s.pot.feeder = .jog t0 d

/-- The expiry that a command stands for is due at the machine time of the state, each by its own rule. A
command that stands for no expiry never is. The longest times of the storage operations are those of assumption
15, and that a completion a tick brings carries what was written is assumption 1. -/
def Due (s : State) : Instr → Prop
  | .speedSample => s.now = s.trk.nextSample
  | .phaseLossExpiry p => ∃ e f t0, activePhase s p = some e ∧ (getPhase s p).frequency = some f ∧
      ((getPhase s p).lastEdge = some t0 ∨
        ((getPhase s p).lastEdge = none ∧ (getPhase s p).committedAt = some t0)) ∧
      3000 / (2 * f) ≤ elapsed s.now t0 ∧ s.ilu.slots[slotPhaseLost p].live = false
  | .holdTimeExpiry i => (signal s i).state = .valid ∧ ∃ t0 m n, (signal s i).fresh = some t0 ∧
      mapOf s i.val = some m ∧ m.hold = some n ∧ n ≤ elapsed s.now t0
  | .lostTimeExpiry i => (signal s i).state = .held ∧ ∃ t0 m n, (signal s i).fresh = some t0 ∧
      mapOf s i.val = some m ∧ m.lost = some n ∧ n ≤ elapsed s.now t0
  | .absentTimeout i => (signal s i).state = .absent ∧ ∃ t0 m n, s.lnk.mapSince = some t0 ∧
      mapOf s i.val = some m ∧ m.lost = some n ∧ n ≤ elapsed s.now t0
  | .linkTimeout => s.tbs.slotMap.active.header.getD 500 ≤ elapsed s.now s.lnk.linkFrom ∧
      s.ilu.slots[slotLinkLost].live = false
  | .stuckValveExpiry n => ∃ iv, (getNozzle s n).valve = some iv ∧ iv.maxOpen ≤ elapsed s.now iv.openedAt
  | .vapourDwellExpiry => ∃ t0, s.flx.dwellFrom = some t0 ∧ vapourDwell s ≤ elapsed s.now t0
  | .nozzleTestElapsed => ∃ n d iv, s.flx.test = some ⟨n, d⟩ ∧ (getNozzle s n).valve = some iv ∧
      d ≤ elapsed s.now iv.openedAt
  | .runawayWindowExpiry l => ∃ w e, (getLoop s l).window = some w ∧ activeLoop s l = some e ∧
      e.runawayWindow * 1000 ≤ elapsed s.now w.start
  | .settleTimerExpiry l => ∃ t0 e, (getLoop s l).settleFrom = some t0 ∧ activeLoop s l = some e ∧
      e.settle * 1000 ≤ elapsed s.now t0
  | .setbackDelayExpiry => s.pot.state = .ready ∧ ∃ t0 e, s.pot.idleFrom = some t0 ∧
      activePot s = some e ∧ e.setbackDelay ≠ 0 ∧ elapsed s.now t0 = e.setbackDelay * 1000
  | .pumpFaultTimerExpiry p => s.ilu.slots[slotPumpFault p].live = false ∧
      ∃ t0, (getPump s p).faultFrom = some t0 ∧ 2000 ≤ elapsed s.now t0
  | .dwellExpiry => ∃ c e, s.pot.contact = some c ∧ c.waveDrop = false ∧ activePot s = some e ∧
      e.maxDwell * 1000 ≤ elapsed s.now c.start
  | .feederMaxRunExpiry => ∃ t0 e, FedSince s t0 ∧ activePot s = some e ∧
      e.feederMaxRun * 1000 ≤ elapsed s.now t0
  | .feederJogExpiry => ∃ t0 d, s.pot.feeder = .jog t0 d ∧ d ≤ elapsed s.now t0
  | .graceExpiry h => ∃ t0 e, (getHood s h).graceFrom = some t0 ∧ activeExtraction s h = some e ∧
      e.grace * 1000 ≤ elapsed s.now t0
  | .debounceExpiry h => ∃ d e, (getHood s h).debounce = some d ∧ activeExtraction s h = some e ∧
      e.debounce * 1000 ≤ elapsed s.now d.start
  | .lockoutTimerExpiry h => ∃ t0 e, (getHood s h).lockoutFrom = some t0 ∧
      activeExtraction s h = some e ∧
      max e.lockout (match s.lst.limits with
        | some x => x.lockoutMin
        | none => 0) * 1000 ≤ elapsed s.now t0
  | .filterTenthHour h => ∃ t0, (getHood s h).runningSince = some t0 ∧
      360000 ≤ (getHood s h).accumulator + elapsed s.now t0
  | .startReadCompletion => ∃ t0, s.lst.op = some (.startRead t0) ∧ 40 ≤ elapsed s.now t0
  | .writeCompletion c => c = none ∧ ∃ t0 b, s.lst.op = some (.write t0 b) ∧ 40 ≤ elapsed s.now t0
  | .saveCompletion c => c = none ∧ ∃ t0 b, s.lst.op = some (.save t0 b) ∧ 40 ≤ elapsed s.now t0
  | .powerOnReset => False
  | .rstnAssertion => False
  | .rstnReset => False
  | .encoderCount _ _ => False
  | .entryEyeActivation => False
  | .entryEyeDeactivation => False
  | .exitEyeActivation => False
  | .exitEyeDeactivation => False
  | .zeroCrossEdge _ => False
  | .estopEdge _ => False
  | .maintLineEdge _ => False
  | .frameArrival _ => False
  | .tableRead _ _ _ _ _ => False
  | .tableStage _ _ => False
  | .tableCommit _ _ => False
  | .tableDiscard _ _ => False
  | .announce _ _ _ _ _ => False
  | .announceWithdraw _ _ => False
  | .boardRead _ => False
  | .alarmRead _ _ => False
  | .statusRead _ _ _ => False
  | .modeSet _ _ => False
  | .loopSetEnable _ _ => False
  | .loopSetDisable _ _ => False
  | .potCommandStart _ => False
  | .potCommandStop _ => False
  | .potCommandSetback _ => False
  | .potCommandResume _ => False
  | .feederJog _ _ => False
  | .trackPurge _ _ => False
  | .faultClearLoop _ _ => False
  | .faultClearNozzle _ _ => False
  | .faultClearFilter _ _ => False
  | .faultClearFeeder _ _ => False
  | .lockoutClear _ => False
  | .nozzleTest _ _ _ => False
  | .limitsRead _ => False
  | .limitsWrite _ _ => False
  | .identRead _ => False
  | .reset _ => False

/-! ### Rises of the standing action within an event (R154) -/

/-- A slot of effective action c or higher can have stood in the event that led from s to t: one that stands
in s, or a latched one among those the event itself judged or raised. -/
def Reached (s t : State) (c : Nat) (ks : List SlotId) : Prop :=
  ∃ k : SlotId, c ≤ effectiveAction s k ∧
    (stands s k = true ∨ ((Judged k ∨ k ∈ ks) ∧ t.ilu.slots[k].latched = true))

/-- PERMIT was active and fell in the event: one of its conditions failed (R158). -/
def PermitFell (s t : State) (ks : List SlotId) : Prop :=
  s.ilu.permit = true ∧ (s.mdc.mode = .starting ∨ s.lines.estop = true ∨ Reached s t 5 ks)

/-- The judgements after an event cannot change the standing action: no slot they judge has a greater
effective action than some slot that stands and that they do not judge, or than 0. -/
def ActionSettled (s : State) : Prop :=
  ∃ m : Nat, (m = 0 ∨ ∃ k : SlotId, ¬ Judged k ∧ stands s k = true ∧ effectiveAction s k = m) ∧
    ∀ k : SlotId, Judged k → effectiveAction s k ≤ m

/-! ### Fresh samples (R77, R81, R82, R142) -/

/-- A live slot after its condition was judged: live and latched with the detail from the judgement that first
finds it, unchanged while it holds on, its live flag alone cleared when it fails (R151). -/
def SlotJudged (s t : State) (k : SlotId) (holds : Prop) (detail : Int) : Prop :=
  (holds → s.ilu.slots[k].live = false → t.ilu.slots[k] = ⟨true, true, detail⟩) ∧
    (holds → s.ilu.slots[k].live = true → t.ilu.slots[k] = s.ilu.slots[k]) ∧
    (¬ holds → t.ilu.slots[k] = { s.ilu.slots[k] with live := false })

/-- Loop l after a PV of v was formed for it by a fresh sample (R77): OVERTEMP judged, with the fault above the
hard maximum (R67, R81); and, when the loop stays ACTIVE, the law of R78 and the runaway window (R82). That an
ACTIVE loop faults also while OVERTEMP is live already is assumption 31. -/
def Evaluated (s t : State) (l : LoopId) (v : Int) : Prop :=
  let x := getLoop s l
  let y := getLoop t l
  let z := getLoop (applyLaw (updLoop s l fun x => { x with pv := some v }) l) l
  let hot := ∃ m, hardMax s l = some m ∧ m < v
  y.pv = some v ∧
    (∀ m, hardMax s l = some m → SlotJudged s t (slotOvertemp l) (m < v) v) ∧
    (¬ hot → y.mode = x.mode ∧ y.causes = x.causes) ∧
    (hot → x.mode = .active → y.mode = .fault ∧ y.causes = ⟨false, true, false⟩ ∧ y.demand = 0 ∧
      y.integral = x.integral ∧ y.window = none) ∧
    (hot → x.mode = .fault → y.mode = .fault ∧ y.causes = { x.causes with overtemp := true }) ∧
    (hot → x.mode = .off → y.mode = .off ∧ y.causes = x.causes) ∧
    (x.mode ≠ .active → y.demand = x.demand ∧ y.integral = x.integral ∧ y.window = x.window) ∧
    (¬ hot → x.mode = .active → y.integral = z.integral ∧ y.demand = z.demand ∧
      (z.demand < 900 → y.window = none) ∧
      (900 ≤ z.demand → y.window = some (x.window.getD ⟨s.now, v⟩)))

/-- What every fresh sample leaves (R170, R171): the signal's row VALID with value, time, sequence and producer,
the other rows as they were; the awaited set without it, NOT_READY clear once that empties it (R192); INPUT_HELD
judged (R173); and lines, time, tables, MGE, mode, limits and storage as they were. -/
structure Sampled (s t : State) (i : SignalId) (v : Int) (seq : Nat) (producer : Byte) : Prop where
  lnk : t.lnk = { s.lnk with signals := s.lnk.signals.set i { signal s i with
    state := .valid, value := some v, fresh := some s.now, lastSeq := some seq,
    producer := some producer } }
  awaited : t.mdc = { s.mdc with
    awaited := s.mdc.awaited.filter fun j => j ≠ i
    notReady := s.mdc.notReady &&
      !(decide (i ∈ s.mdc.awaited) && (s.mdc.awaited.filter fun j => j ≠ i).isEmpty) }
  held : SlotJudged s t slotInputHeld (∃ j : SignalId, j ≠ i ∧ (signal s j).state = .held) i.val
  lines : t.lines = s.lines
  now : t.now = s.now
  tbs : t.tbs = s.tbs
  mge : t.mge = s.mge
  limits : t.lst.limits = s.lst.limits
  storage : t.lst.storage = s.lst.storage

/-- A setpoint of a zone after the clamp, while limits are in force (R75). -/
def clamped (s : State) (l : LoopId) (x : Int) : Int :=
  match hardMax s l with
  | some m => min x (m - 50)
  | none => x

/-- The setpoint a recipe, or none, asks of a zone whose loop entry is e: its own, else the idle setpoint, with
the clamp (R75, R86). -/
def zoneSetpoint (s : State) (e : LoopEntry) (r : Option Recipe) (k : ZoneId) : Int :=
  clamped s (zoneLoop k) ((r.bind fun x => x.zoneSp[k]).getD e.idle)

/-- Some board spans a location (R11). -/
def Spanned (s : State) (loc : Int) : Prop :=
  ∃ b ∈ s.trk.queue, loc ≤ leading s b.data ∧ trailing s b.data ≤ loc

/-- The drawdown offset that four rising breakpoints give a main command (R122). -/
def IsOffset (bp : Vector Breakpoint 4) (s : Nat) (o : Int) : Prop :=
  (s ≤ bp[0].speed → o = bp[0].offset) ∧ (bp[3].speed ≤ s → o = bp[3].offset) ∧
    ∀ i j : Fin 4, j.val = i.val + 1 → bp[i].speed ≤ s → s < bp[j].speed →
      o = bp[i].offset + Int.fdiv ((bp[j].offset - bp[i].offset) * ((s : Int) - bp[i].speed))
        ((bp[j].speed : Int) - bp[i].speed)

/-- A pump command one step nearer its target, never past it (R117). -/
def stepped (step : Nat) (x : PumpState) : Nat :=
  if x.command < x.target then min x.target (x.command + step) else max x.target (x.command - step)

/-! ### The spray bar (R51) -/

/-- A board covers the evaluation point of a geometry (R51). -/
def Covers (s : State) (g : Geometry) (b : Board) : Prop :=
  b ∈ s.trk.queue ∧ b.windows.spray = .opened ∧ (g.sprayPoint : Int) + g.nozzleLead ≤ leading s b.data ∧
    (b.data.len = none ∨ trailing s b.data < (g.sprayPoint : Int) + g.nozzleLead)

/-- A nozzle is wanted for a covering board: named in the current mask, enabled in force and not faulted
(R51, R52). Bit n of a mask names nozzle n (assumption 54). -/
def WantedFor (s : State) (g : Geometry) (b : Board) (n : NozzleId) : Prop :=
  s.ilu.standing < 3 ∧ (getNozzle s n).faulted = false ∧
    (∃ e, (getNozzle s n).inForce = some e ∧ e.enabled = true) ∧
    ∃ a r i m, accountOf s b.data.pIn = some a ∧ a.disposition = .toSpray ∧
      boardRecipe s b.data = some r ∧ r.fluxMap = some i ∧ activeMap s i = some m ∧
      let x := (leading s b.data - ((g.sprayPoint : Int) + g.nozzleLead)).toNat / m.segLen
      x < m.segCount ∧ (m.masks.getD x 0).getLsbD n.val = true

/-! ### Offers of a half-cycle (R97, R98) -/

/-- First fit: each gate in turn is granted when its load is within what remains (R98). -/
def firstFit (load : GateId → Nat) : Nat → List GateId → List GateId
  | _, [] => []
  | room, g :: l => if load g ≤ room then g :: firstFit load (room - load g) l else firstFit load room l

/-- A gate is eligible: filled, used and enabled, its loop ACTIVE, PERMIT active, its phase not lost (R93). -/
def Eligible (s : State) (g : GateId) : Prop :=
  ∃ e l p, activeGate s g = some e ∧ e.loop = some l ∧ e.phase = some p ∧ e.enabled = some true ∧
    (getLoop s l).mode = .active ∧ s.ilu.permit = true ∧ s.ilu.slots[slotPhaseLost p].live = false

/-- How far a gate stands behind a class pointer, going up cyclically (R97). -/
def behind (pointer g : GateId) : Nat := (g - pointer).val

/-! ### The ranges of the staged tables (section 2.4) -/

/-- An optional field is present, and within a range. -/
def Within {α : Type} (o : Option α) (p : α → Prop) : Prop := ∃ a, o = some a ∧ p a

/-- An optional field is absent, or within a range. -/
def Optionally {α : Type} (o : Option α) (p : α → Prop) : Prop := ∀ a, o = some a → p a

/-- A slot-map entry is good where no earlier entry has its id or its slot (R36). -/
def GoodMapEntry (c : TableCopy Nat MapEntry 64) (i : Fin 64) (e : MapEntry) : Prop :=
  (∀ (j : Fin 64) (m : MapEntry), j < i → c.entries[j] = some m → m.signal ≠ e.signal ∧ m.slot ≠ e.slot) ∧
    e.slot ≤ 63 ∧
    ((e.signal ≤ 18 ∧ e.direction = .consumed ∧
        ∃ h l, e.hold = some h ∧ e.lost = some l ∧ 10 ≤ h ∧ h ≤ 5000 ∧ h < l ∧ l ≤ 30000) ∨
      (32 ≤ e.signal ∧ e.signal ≤ 41 ∧ e.direction = .produced ∧ e.hold = none ∧ e.lost = none))

/-- The geometry entry (R37). -/
def GoodGeometry (g : Geometry) : Prop :=
  10000 ≤ g.countsPerMetre ∧ g.countsPerMetre ≤ 400000 ∧ 5 ≤ g.confirm ∧ g.confirm ≤ 100 ∧
    g.sprayPoint ≤ 100000 ∧ -2000 ≤ g.nozzleLead ∧ g.nozzleLead ≤ 2000 ∧
    1 ≤ (g.sprayPoint : Int) + g.nozzleLead ∧ (g.sprayPoint : Int) + g.nozzleLead ≤ 100000 ∧
    (∀ k : ZoneId, g.zones[k].start < g.zones[k].stop ∧ g.zones[k].stop ≤ 100000 ∧
      g.zones[k].lead ≤ 5000 ∧ g.zones[k].lag ≤ 5000) ∧
    g.chipWave ≤ 100000 ∧ g.mainWave ≤ 100000 ∧ g.boostLead ≤ 5000 ∧ g.boostLag ≤ 5000 ∧
    g.chipLead ≤ 5000 ∧ g.chipLag ≤ 5000 ∧ g.exitLoc ≤ 100000 ∧ 10 ≤ g.exitTol ∧ g.exitTol ≤ 2000 ∧
    g.exitTol + 1 ≤ g.exitLoc ∧ g.lengthTol ≤ 5000

/-- A loop entry (R38). -/
def GoodLoop (e : LoopEntry) : Prop :=
  0 ≤ e.idle ∧ e.idle ≤ 6000 ∧ e.kp ≤ 255 ∧ e.ki ≤ 255 ∧ e.umax ≤ 1000 ∧ 1 ≤ e.band ∧ e.band ≤ 500 ∧
    30 ≤ e.runawayWindow ∧ e.runawayWindow ≤ 900 ∧ 10 ≤ e.runawayRise ∧ e.runawayRise ≤ 500 ∧
    10 ≤ e.settle ∧ e.settle ≤ 600

/-- A gate entry (R39). -/
def GoodGate (e : GateEntry) : Prop :=
  (e.loop ≠ none ∧ e.phase ≠ none ∧ Within e.load (fun n => 1 ≤ n ∧ n ≤ 400) ∧
      Within e.priority (fun n => n ≤ 3) ∧ e.enabled ≠ none) ∨ e = ⟨none, none, none, none, none⟩

/-- A phase entry (R40). -/
def GoodPhase (e : PhaseEntry) : Prop := (e.frequency = 50 ∨ e.frequency = 60) ∧ e.budget ≤ 1000

/-- A recipe (R41); the map it names is not EMPTY in the active flux map table. -/
def GoodRecipe (s : State) (r : Recipe) : Prop :=
  ((r.fluxMap = none ∧ r.fluxTarget = none ∧ r.fluxTol = none) ∨
      (Within r.fluxMap (fun m => m ≤ 7 ∧ activeMap s m ≠ none) ∧
        Within r.fluxTarget (fun n => 1 ≤ n ∧ n ≤ 100000000) ∧
        Within r.fluxTol fun n => 1 ≤ n ∧ n ≤ 50)) ∧
    (∀ k : ZoneId, Optionally r.zoneSp[k] (fun x => 0 ≤ x ∧ x ≤ 6000) ∧
      Optionally r.zoneFf[k] fun n => n ≤ 500) ∧
    r.contactSpeed ≤ 1000 ∧ 0 ≤ r.bandMin ∧ r.bandMin ≤ r.bandMax ∧ r.bandMax ≤ 6000 ∧
    r.boardGap ≤ 2000 ∧ 0 ≤ r.transTol ∧ r.transTol ≤ 1000 ∧ r.transGap ≤ 10000 ∧
    0 ≤ r.speedMin ∧ r.speedMin ≤ r.speedMax ∧ r.speedMax ≤ 6000

/-- A flux map (R42). -/
def GoodFluxMap (m : FluxMap) : Prop :=
  20 ≤ m.segLen ∧ m.segLen ≤ 500 ∧ 1 ≤ m.segCount ∧ m.segCount ≤ 128 ∧ m.masks.length = m.segCount

/-- A nozzle entry (R43). -/
def GoodNozzle (e : NozzleEntry) : Prop := 1 ≤ e.flow ∧ e.flow ≤ 2000

/-- The pot entry (R44). -/
def GoodPot (p : PotEntry) : Prop :=
  0 ≤ p.setbackSp ∧ p.setbackSp ≤ p.runSp ∧ p.runSp ≤ 6000 ∧ 0 ≤ p.startMargin ∧ p.startMargin ≤ 500 ∧
    p.setbackDelay ≤ 7200 ∧ 1 ≤ p.disagree ∧ p.disagree ≤ 200 ∧
    -20000 ≤ p.levelRef ∧ p.levelRef ≤ 20000 ∧
    (∀ i : Fin 4, p.breakpoints[i].speed ≤ 1000 ∧ -5000 ≤ p.breakpoints[i].offset ∧
      p.breakpoints[i].offset ≤ 5000) ∧
    (∀ i j : Fin 4, i < j → p.breakpoints[i].speed < p.breakpoints[j].speed) ∧
    -20000 ≤ p.lowLow ∧ p.lowLow < p.feedOn ∧ p.feedOn < p.feedOff ∧ p.feedOff < p.highHigh ∧
    p.highHigh ≤ 20000 ∧ 1 ≤ p.feederMaxRun ∧ p.feederMaxRun ≤ 120 ∧ 1 ≤ p.feederRate ∧
    p.feederRate ≤ 1000 ∧ p.chipNominal ≤ 1000 ∧ p.chipIdle ≤ 1000 ∧ p.mainNominal ≤ 1000 ∧
    p.mainIdle ≤ 1000 ∧ 10 ≤ p.ramp ∧ p.ramp ≤ 1000 ∧ 1 ≤ p.pumpTol ∧ p.pumpTol ≤ 200 ∧
    1 ≤ p.maxDwell ∧ p.maxDwell ≤ 60 ∧ p.conveyorSpeed ≤ 6000

/-- The extraction entry of a hood (R45); the reduced level and the vapour dwell are hood F's, the threshold
hood P's. -/
def GoodExtraction (h : HoodId) (e : ExtractionEntry) : Prop :=
  e.kf ≤ 4095 ∧ e.reqFull ≤ 65535 ∧ e.reqLeast ≤ 65535 ∧ e.fanFull ≤ 1000 ∧ e.fanLeast ≤ 1000 ∧
    (h = hoodF → Within e.reqReduced (fun n => n ≤ 65535) ∧ Within e.fanReduced (fun n => n ≤ 1000) ∧
      Within e.vapourDwell (fun n => n ≤ 120) ∧ e.hotThreshold = none) ∧
    (h = hoodP → e.reqReduced = none ∧ e.fanReduced = none ∧ e.vapourDwell = none ∧
      Within e.hotThreshold fun x => 0 ≤ x ∧ x ≤ 6000) ∧
    1 ≤ e.grace ∧ e.grace ≤ 60 ∧ 1 ≤ e.debounce ∧ e.debounce ≤ 30 ∧ 10 ≤ e.lockout ∧ e.lockout ≤ 600 ∧
    e.warnDrop < e.maxDrop ∧ e.maxDrop ≤ 65535

/-- The action entry of a slot (R46). -/
def GoodAction (k : SlotId) (e : ActionEntry) : Prop :=
  e.cls ≤ 5 ∧ (k = slotEstop → e.hold = .untilRead) ∧ (k = slotLockout → e.hold = .onLive)

/-- Every entry of a copy is filled and good. -/
def AllFilled {H E : Type} {n : Nat} (c : TableCopy H E n) (p : Fin n → E → Prop) : Prop :=
  ∀ i : Fin n, Within c.entries[i] (p i)

/-- Every filled entry of a copy is good. -/
def AllGood {H E : Type} {n : Nat} (c : TableCopy H E n) (p : Fin n → E → Prop) : Prop :=
  ∀ i : Fin n, Optionally c.entries[i] (p i)

/-- The staged copy of a table passes every check of section 2.4 (R33, R36 to R46). -/
def StagedGood (s : State) : Nat → Prop
  | 1 => Within s.tbs.slotMap.staged.header (fun t => 10 ≤ t ∧ t ≤ 500) ∧
      AllGood s.tbs.slotMap.staged (GoodMapEntry s.tbs.slotMap.staged)
  | 2 => AllFilled s.tbs.geometry.staged fun _ => GoodGeometry
  | 3 => AllFilled s.tbs.loop.staged fun _ => GoodLoop
  | 4 => AllFilled s.tbs.gate.staged fun _ => GoodGate
  | 5 => AllFilled s.tbs.phase.staged fun _ => GoodPhase
  | 6 => Within s.tbs.recipe.staged.header (fun h =>
        Optionally h.defaultRecipe fun n => ∃ r : RecipeId, r.val = n ∧
          s.tbs.recipe.staged.entries[r] ≠ none) ∧
      AllGood s.tbs.recipe.staged fun _ => GoodRecipe s
  | 7 => AllGood s.tbs.fluxMap.staged (fun _ => GoodFluxMap) ∧
      ∀ (m : Fin 8) (r : RecipeId) (x : Recipe), activeRecipe s r = some x → x.fluxMap = some m.val →
        s.tbs.fluxMap.staged.entries[m] ≠ none
  | 8 => Within s.tbs.nozzle.staged.header (fun h => 500 ≤ h.maxOpen ∧ h.maxOpen ≤ 20000 ∧
        h.minPress ≤ 10000) ∧
      AllFilled s.tbs.nozzle.staged fun _ => GoodNozzle
  | 9 => AllFilled s.tbs.pot.staged fun _ => GoodPot
  | 10 => AllFilled s.tbs.extraction.staged GoodExtraction
  | 11 => AllFilled s.tbs.action.staged GoodAction
  | _ => False

/-- An item's target exists in a table of n entries, with a header or without, and its content names something
in each of its enumerated fields (R29). -/
def GoodItem {H E : Type} (hasHeader : Bool) (n : Nat) : StageItem H E → Prop
  | .header c => hasHeader = true ∧ c ≠ .unnamed
  | .entry i c => i < n ∧ c ≠ .unnamed

/-- None of the cases in which R29 refuses RANGE. -/
def StageGood : StageRequest → Prop
  | .slotMap l => ∀ x ∈ l, GoodItem true 64 x
  | .geometry l => ∀ x ∈ l, GoodItem false 1 x
  | .loop l => ∀ x ∈ l, GoodItem false 7 x
  | .gate l => ∀ x ∈ l, GoodItem false 16 x
  | .phase l => ∀ x ∈ l, GoodItem false 3 x
  | .recipe l => ∀ x ∈ l, GoodItem true 16 x
  | .fluxMap l => ∀ x ∈ l, GoodItem false 8 x
  | .nozzle l => ∀ x ∈ l, GoodItem true 8 x
  | .pot l => ∀ x ∈ l, GoodItem false 1 x
  | .extraction l => ∀ x ∈ l, GoodItem false 2 x
  | .action l => ∀ x ∈ l, GoodItem false 64 x
  | .unknown _ => False

/-- A recipe index is referenced: an announcement or a record in the queue names it (R35). -/
def Referenced (s : State) (r : RecipeId) : Prop :=
  (∃ a ∈ s.trk.ring, a.recipe = r) ∨ ∃ b ∈ s.trk.queue, b.data.recipe = some r

/-- An index that the in-use check of a recipe or flux map commit stops at: referenced, and differing between
the staged and the active copy (R35). -/
def Blocks (s : State) : Nat → Nat → Prop
  | 6, i => ∃ r : RecipeId, r.val = i ∧ Referenced s r ∧
      s.tbs.recipe.staged.entries[r] ≠ s.tbs.recipe.active.entries[r]
  | 7, i => ∃ m : Fin 8, m.val = i ∧
      (∃ r x, Referenced s r ∧ activeRecipe s r = some x ∧ x.fluxMap = some m.val) ∧
      s.tbs.fluxMap.staged.entries[m] ≠ s.tbs.fluxMap.active.entries[m]
  | _, _ => False

/-! ### The laws the data sheet names -/

/-- The tracking law of R13, R15, R22 and R25: the capacities, and entered minus completed is the number of
records in the tracking queue. -/
def Tracking (s : State) : Prop :=
  s.trk.queue.length ≤ Config.queueSize ∧ s.trk.ring.length ≤ Config.ringSize ∧
    s.trk.completions.length ≤ Config.completionSize ∧
    s.trk.entered - s.trk.completed = BitVec.ofNat 32 s.trk.queue.length

/-- "A nonzero tag appears at most once across the tracking queue and the announcement ring" (R15). -/
def TagsDistinct (s : State) : Prop :=
  ((s.trk.ring.map fun a => a.tag) ++ ((s.trk.queue.map fun b => b.data.tag).filter fun n => n ≠ 0)).Nodup

/-- "A latched alarm flag is set whenever its live condition is set" (R151). -/
def LatchedWhileLive (s : State) : Prop :=
  ∀ k : SlotId, s.ilu.slots[k].live = true → s.ilu.slots[k].latched = true

/-- "Every firing credit" lies "within 0 to 2000" (R95). -/
def CreditsBounded (s : State) : Prop := ∀ g : GateId, s.fal.gates[g].credit ≤ 2000

/-- "A heater gate fires only while PERMIT is active, its gate is enabled, its loop is ACTIVE, and its phase
is not lost" (R93). -/
def FiringLaw (s : State) : Prop :=
  ∀ g : GateId, s.fal.gates[g].firing = true →
    s.ilu.permit = true ∧ ∃ e l p, activeGate s g = some e ∧ e.loop = some l ∧ e.phase = some p ∧
      e.enabled = some true ∧ (getLoop s l).mode = .active ∧ s.ilu.slots[slotPhaseLost p].live = false

/-- "The entry permit is 1 only in mode RUN with NOT_READY clear and the standing action 0" (R161). -/
def AdmissionLaw (s : State) : Prop :=
  s.ilu.entryPermit = true → s.mdc.mode = .run ∧ s.mdc.notReady = false ∧ s.ilu.standing = 0

/-- "While the FUME_LOCKOUT flag is set, every spray valve is closed" (R140), through slot 54 being live and
the standing action being INHIBIT_FLUX_NOW or higher (R56, R153). -/
def FumeLaw (s : State) : Prop :=
  (s.exu.lockout.isSome = true → s.ilu.slots[slotLockout].live = true) ∧
    (s.ilu.slots[slotLockout].live = true → 3 ≤ s.ilu.standing) ∧
    (3 ≤ s.ilu.standing → ∀ n : NozzleId, s.flx.nozzles[n].valve = none)

/-- PERMIT is active only while its three conditions hold (R158); a part held in reset judges nothing. -/
def PermitLaw (s : State) : Prop :=
  s.lines.rstn = false → s.ilu.permit = true →
    s.mdc.mode ≠ .starting ∧ s.lines.estop = false ∧ s.ilu.standing < 5

/-- "The effective setpoint of every loop is therefore at most its hard maximum − 5.0 °C" (R75). -/
def SetpointLaw (s : State) : Prop :=
  ∀ (l : LoopId) (sp m : Int), s.lpu.loops[l].setpoint = some sp → hardMax s l = some m → sp ≤ m - 50

/-- "LPU keeps every integral within 0 to Umax × 256 and every demand within 0 to Umax of its loop"
(R66). -/
def DemandLaw (s : State) : Prop :=
  ∀ (l : LoopId) (e : LoopEntry), activeLoop s l = some e →
    s.lpu.loops[l].integral ≤ e.umax * 256 ∧ s.lpu.loops[l].demand ≤ e.umax

/-- "While the pot is in SETBACK, the tracking queue and the announcement ring are both empty" (R113). -/
def SetbackLaw (s : State) : Prop := s.pot.state = .setback → s.trk.queue = [] ∧ s.trk.ring = []

/-- Each time the run accumulator comes to 360,000 ms "the accumulator falls by 360,000" (R144): that of each
hood stays below a tenth of an hour. -/
def AccumulatorLaw (s : State) : Prop := ∀ h : HoodId, (getHood s h).accumulator < 360000

/-- A class of the action table in force is one of the six of R153, 0 to 5, as the checks of its commit demand
(R46). -/
def ClassLaw (s : State) : Prop := ∀ (k : SlotId) (e : ActionEntry), activeAction s k = some e → e.cls ≤ 5

/-- While a nozzle test runs, its nozzle's valve is open for the test: the test opens it (R62), the bar's
re-evaluation passes it over (R52), and whatever closes it ends the test (R63). -/
def TestLaw (s : State) : Prop :=
  ∀ (n : NozzleId) (d : Nat), s.flx.test = some ⟨n, d⟩ →
    ∃ iv, s.flx.nozzles[n].valve = some iv ∧ iv.owner = .test

end Sys2Proof.Safety
end

