-- ==== Sys2Proof/WellFormed.lean ====
section
/-! DEFINITION. Well-formed commands: every field of a request fits the width its record gives it (R188,
assumption 11), as "any value the format can carry" (R29) demands. Commands that are no requests have
operands that their types already bound. -/

namespace Sys2Proof.WellFormed

/-- Fits an unsigned field of the given width in bits. -/
def fits (bits n : Nat) : Bool := decide (n < 2 ^ bits)

/-- Fits a signed field of the given width in bits. -/
def fitsS (bits : Nat) (x : Int) : Bool := decide (-(2 ^ (bits - 1) : Int) ≤ x) && decide (x < 2 ^ (bits - 1))

/-- An optional field is absent or fits. -/
def opt {α : Type} (o : Option α) (f : α → Bool) : Bool :=
  match o with
  | none => true
  | some a => f a

/-! ### Table contents -/

def mapEntry (e : MapEntry) : Bool :=
  fits 8 e.signal && fits 8 e.slot && opt e.hold (fits 32) && opt e.lost (fits 32)

def zonePlace (z : ZonePlace) : Bool := fits 32 z.start && fits 32 z.stop && fits 32 z.lead && fits 32 z.lag

def geometry (g : Geometry) : Bool :=
  fits 32 g.countsPerMetre && fits 32 g.confirm && fits 32 g.sprayPoint && fitsS 32 g.nozzleLead &&
    g.zones.toList.all zonePlace && fits 32 g.chipWave && fits 32 g.mainWave && fits 32 g.boostLead &&
    fits 32 g.boostLag && fits 32 g.chipLead && fits 32 g.chipLag && fits 32 g.exitLoc &&
    fits 32 g.exitTol && fits 32 g.lengthTol

def loopEntry (e : LoopEntry) : Bool :=
  fitsS 16 e.idle && fits 32 e.kp && fits 32 e.ki && fits 16 e.umax && fitsS 16 e.band &&
    fits 32 e.runawayWindow && fitsS 16 e.runawayRise && fits 32 e.settle

def gateEntry (e : GateEntry) : Bool := opt e.load (fits 16) && opt e.priority (fits 8)

def phaseEntry (e : PhaseEntry) : Bool := fits 32 e.frequency && fits 16 e.budget

def recipeHeader (h : RecipeHeader) : Bool := opt h.defaultRecipe (fits 8)

def recipe (r : Recipe) : Bool :=
  opt r.fluxMap (fits 8) && opt r.fluxTarget (fits 32) && opt r.fluxTol (fits 32) &&
    r.zoneSp.toList.all (fun o => opt o (fitsS 16)) && r.zoneFf.toList.all (fun o => opt o (fits 16)) &&
    fits 16 r.contactSpeed && fitsS 16 r.bandMin && fitsS 16 r.bandMax && fits 32 r.boardGap &&
    fitsS 16 r.transTol && fits 32 r.transGap && fitsS 16 r.speedMin && fitsS 16 r.speedMax

/-- A mask list is no longer than the 128 of R42 (R181 check 5). -/
def fluxMap (m : FluxMap) : Bool := fits 32 m.segLen && fits 32 m.segCount && decide (m.masks.length ≤ 128)

def nozzleHeader (h : NozzleHeader) : Bool := fits 32 h.maxOpen && fits 16 h.minPress

def nozzleEntry (e : NozzleEntry) : Bool := fits 32 e.flow

def breakpoint (b : Breakpoint) : Bool := fits 16 b.speed && fitsS 16 b.offset

def potEntry (p : PotEntry) : Bool :=
  fitsS 16 p.runSp && fitsS 16 p.setbackSp && fitsS 16 p.startMargin && fits 32 p.setbackDelay &&
    fitsS 16 p.disagree && fitsS 16 p.levelRef && p.breakpoints.toList.all breakpoint &&
    fitsS 16 p.feedOn && fitsS 16 p.feedOff && fitsS 16 p.lowLow && fitsS 16 p.highHigh &&
    fits 32 p.feederMaxRun && fits 32 p.feederRate && fits 16 p.chipNominal && fits 16 p.chipIdle &&
    fits 16 p.mainNominal && fits 16 p.mainIdle && fits 32 p.ramp && fits 16 p.pumpTol &&
    fits 32 p.maxDwell && fits 16 p.conveyorSpeed

def extractionEntry (e : ExtractionEntry) : Bool :=
  fits 32 e.kf && fits 16 e.reqFull && opt e.reqReduced (fits 16) && fits 16 e.reqLeast &&
    fits 16 e.fanFull && opt e.fanReduced (fits 16) && fits 16 e.fanLeast &&
    opt e.vapourDwell (fits 32) && opt e.hotThreshold (fitsS 16) && fits 32 e.grace &&
    fits 32 e.debounce && fits 32 e.lockout && fits 16 e.warnDrop && fits 16 e.maxDrop

def actionEntry (e : ActionEntry) : Bool := fits 8 e.cls

/-! ### Items and requests -/

/-- A content is EMPTY, unnamed, or fits. -/
def content {α : Type} (f : α → Bool) : Content α → Bool
  | .empty => true
  | .filled a => f a
  | .unnamed => true

/-- An item's entry index is below the code of the header, and its content fits. -/
def item {H E : Type} (h : H → Bool) (e : E → Bool) : StageItem H E → Bool
  | .header c => content h c
  | .entry i c => decide (i < 255) && content e c

/-- A list is short enough for its entry count, and its items fit. -/
def items {H E : Type} (h : H → Bool) (e : E → Bool) (l : List (StageItem H E)) : Bool :=
  fits 8 l.length && l.all (item h e)

def noHeader (_ : Unit) : Bool := true

def stageRequest : StageRequest → Bool
  | .slotMap l => items (fits 32) mapEntry l
  | .geometry l => items noHeader geometry l
  | .loop l => items noHeader loopEntry l
  | .gate l => items noHeader gateEntry l
  | .phase l => items noHeader phaseEntry l
  | .recipe l => items recipeHeader recipe l
  | .fluxMap l => items noHeader fluxMap l
  | .nozzle l => items nozzleHeader nozzleEntry l
  | .pot l => items noHeader potEntry l
  | .extraction l => items noHeader extractionEntry l
  | .action l => items noHeader actionEntry l
  | .unknown t => fits 8 t && (decide (t = 0) || decide (11 < t))

def target : Target → Bool
  | .header => true
  | .entry i => decide (i < 255)

def limitsFields (f : LimitsFields) : Bool :=
  f.hardMax.toList.all (fitsS 16) && f.ceiling.toList.all (fits 16) && fits 32 f.lockoutMin &&
    f.service.toList.all (fits 32)

/-- Every operand fits its field. -/
def instr : Instr → Bool
  | .powerOnReset | .rstnReset | .startReadCompletion | .encoderCount _ _ | .entryEyeActivation
  | .entryEyeDeactivation | .exitEyeActivation | .exitEyeDeactivation | .speedSample | .zeroCrossEdge _
  | .phaseLossExpiry _ | .estopEdge _ | .maintLineEdge _ | .frameArrival _ | .holdTimeExpiry _
  | .lostTimeExpiry _ | .absentTimeout _ | .linkTimeout | .stuckValveExpiry _ | .vapourDwellExpiry
  | .nozzleTestElapsed | .runawayWindowExpiry _ | .settleTimerExpiry _ | .setbackDelayExpiry
  | .pumpFaultTimerExpiry _ | .dwellExpiry | .feederMaxRunExpiry | .feederJogExpiry | .graceExpiry _
  | .debounceExpiry _ | .lockoutTimerExpiry _ | .filterTenthHour _ | .writeCompletion _
  | .saveCompletion _ => true
  | .tableRead _ t _ f n => fits 8 t && target f && fits 32 n
  | .tableStage _ q => stageRequest q
  | .tableCommit _ t => fits 8 t
  | .tableDiscard _ t => fits 8 t
  | .announce _ tag r e _ => fits 16 tag && fits 8 r && opt e (fits 32)
  | .announceWithdraw _ tag => fits 16 tag
  | .boardRead _ => true
  | .alarmRead _ _ => true
  | .statusRead _ _ f => fits 8 f
  | .modeSet _ t => fits 8 t
  | .loopSetEnable _ l => fits 8 l
  | .loopSetDisable _ l => fits 8 l
  | .potCommandStart _ => true
  | .potCommandStop _ => true
  | .potCommandSetback _ => true
  | .potCommandResume _ => true
  | .feederJog _ d => fits 32 d
  | .trackPurge _ _ => true
  | .faultClearLoop _ l => fits 8 l
  | .faultClearNozzle _ n => fits 8 n
  | .faultClearFilter _ h => fits 8 h
  | .faultClearFeeder _ i => fits 8 i
  | .lockoutClear _ => true
  | .nozzleTest _ n d => fits 8 n && fits 32 d
  | .limitsRead _ => true
  | .limitsWrite _ f => limitsFields f
  | .identRead _ => true
  | .reset _ => true
  | .rstnAssertion => true

end Sys2Proof.WellFormed
end

