-- ==== Sys2Proof/Certificates/Slice0/Obligations.lean ====
section
/-! DEFINITION. The statements about the CJ460 for the provers, family by family: the queue, the resets,
tracking, tables, fluxing, loops, firing, pot, extraction, alarms, link, modes and limits, packed forms, and
the laws every step keeps. -/

open Sys2Proof Sys2Proof.Machine Sys2Proof.Safety

/-! ### The queue -/

/-- A step runs the command at the front of the queue on the state with the queue's rest. -/
def Obligations.StepRunsFrontOfQueue : Prop :=
  ∀ (c : Instr) (s : State), step { s with pending := c :: s.pending } = exec c s

/-- On an empty queue a step is a tick: one millisecond passes and what it makes due is queued, each expiry by
its own rule (R7, R58 and the rules `Due` names) and once, and nothing else; a sampling point is among it
exactly when machine time reaches it. A part held in reset idles. That time passes by such steps, that an expiry
is a command a tick queues, that a held part's time stands, and that a storage operation takes its longest time
are the model's choices (assumptions 1, 14 and 15). -/
def Obligations.EmptyQueueIsATick : Prop :=
  ∀ s : State, s.pending = [] →
    (s.lines.rstn = true → step s = .next s) ∧
    (Running s → ∃ due : List Instr, step s = .next { s with now := s.now + 1, pending := due } ∧
      (Instr.speedSample ∈ due ↔ s.now + 1 = s.trk.nextSample) ∧
      (∀ n : NozzleId, Instr.stuckValveExpiry n ∈ due ↔
        ∃ iv, (getNozzle s n).valve = some iv ∧ iv.maxOpen ≤ (s.now + 1 - iv.openedAt).toNat) ∧
      due.Nodup ∧ ∀ c : Instr, c ∈ due ↔ Due { s with now := s.now + 1 } c)

/-! ### The resets -/

/-- What each reset leaves: the mode and TRK, by the table of R27, with the encoder moving nothing before the
geometry table's commit; TBS, FLX, LPU, FAL and POT, by the tables of R47, R65, R88, R106 and R132; and EXU,
ILU, LNK, MGE, MDC and LST (R149, R167, R178, R186, R197): the lockout flag kept by the warm resets alone,
slot 54 following it, the reset cause, the straps read, and the start-up read in flight. -/
def Obligations.ResetValues : Prop :=
  ∀ (s : State) (c : Instr), Resets s c → ∃ t, exec c s = .next t ∧
    (t.mdc.mode = .starting ∧
    t.trk.pos = 0 ∧ t.trk.remainder = 0 ∧ t.trk.high = 0 ∧ t.trk.speed = 0 ∧ t.trk.sampledPos = 0 ∧
    t.now = 0 ∧ t.trk.nextSample = 250 ∧ activeGeometry t = none ∧
    t.trk.entryEye = .clear ∧ t.trk.exitEye = .clear ∧ t.trk.awaiting = none ∧
    t.trk.ring = [] ∧ t.trk.queue = [] ∧ t.trk.completions = [] ∧ t.trk.discards = 0 ∧
    t.trk.entered = 0 ∧ t.trk.completed = 0 ∧ t.ilu.slots[slotReverse].live = false ∧
    ∀ a b : Bool, ∃ u, exec (.encoderCount a b) t = .next u ∧ u.trk = t.trk) ∧
    (EmptyTable t.tbs.slotMap ∧ EmptyTable t.tbs.geometry ∧ EmptyTable t.tbs.loop ∧
    EmptyTable t.tbs.gate ∧ EmptyTable t.tbs.phase ∧ EmptyTable t.tbs.recipe ∧
    EmptyTable t.tbs.fluxMap ∧ EmptyTable t.tbs.nozzle ∧ EmptyTable t.tbs.pot ∧
    EmptyTable t.tbs.extraction ∧ EmptyTable t.tbs.action ∧
    (∀ n : NozzleId, getNozzle t n = ⟨none, false, none, none⟩) ∧
    t.flx.accounts = [] ∧ t.flx.dwellFrom = none ∧ t.flx.fluxing = false ∧ t.flx.test = none ∧
    t.flx.lastTest = none ∧
    (∀ l : LoopId, (getLoop t l).mode = .off ∧ (getLoop t l).causes = ⟨false, false, false⟩ ∧
      (getLoop t l).integral = 0 ∧ (getLoop t l).demand = 0 ∧ (getLoop t l).pv = none ∧
      (getLoop t l).setpoint = none ∧ (getLoop t l).controller = none ∧ (getLoop t l).ff = 0 ∧
      (getLoop t l).window = none ∧ (getLoop t l).settleFrom = none ∧ (getLoop t l).inBand = false ∧
      (getLoop t l).settled = false) ∧
    (∀ p : PhaseId, (getPhase t p).frequency = none ∧ (getPhase t p).lastEdge = none ∧
      (getPhase t p).budget = none ∧ (getPhase t p).last = none ∧
      ∀ k : Fin 4, (getPhase t p).pointers[k] = 0) ∧
    (∀ g : GateId, gateStopped t g) ∧ (∀ l : LoopId, t.fal.starve[l] = 0) ∧
    t.pot.state = .off ∧ t.pot.readyAt = none ∧ t.pot.idleFrom = none ∧ t.pot.pumpsStarted = false ∧
    t.pot.chip = ⟨0, 0, none⟩ ∧ t.pot.main = ⟨0, 0, none⟩ ∧ t.pot.lastFrame = none ∧
    t.pot.contact = none ∧ t.pot.level = none ∧ t.pot.feedOnCount = 0 ∧ t.pot.feeder = .off ∧
    t.pot.feederEnabled = true ∧ t.pot.grams = 0) ∧
    (t.exu.lockout = (if c = .powerOnReset then none else s.exu.lockout) ∧
    (∀ h : HoodId, (getHood t h).airflow = none ∧ (getHood t h).requirement = none ∧
      (getHood t h).fan = 0 ∧ (getHood t h).graceFrom = none ∧ (getHood t h).debounce = none ∧
      (getHood t h).lockoutFrom = none ∧ (getHood t h).hours = 0 ∧ (getHood t h).accumulator = 0 ∧
      (getHood t h).runningSince = none) ∧
    (getHood t hoodF).level = .least ∧ (getHood t hoodP).level = .full ∧
    (∀ k : SlotId, k ≠ slotEstop → k ≠ slotLockout → t.ilu.slots[k] = ⟨false, false, 0⟩) ∧
    t.ilu.slots[slotLockout].live = t.exu.lockout.isSome ∧
    t.ilu.slots[slotLockout].latched = t.exu.lockout.isSome ∧
    t.ilu.slots[slotEstop].live = s.lines.estop ∧ t.ilu.slots[slotEstop].latched = s.lines.estop ∧
    t.ilu.permit = false ∧ t.ilu.convRun = false ∧ t.ilu.entryPermit = false ∧
    t.ilu.reason = .wrongMode ∧ t.ilu.nextBoard = none ∧ t.ilu.requiredGap = none ∧
    t.ilu.standing = (if s.lines.estop then 5 else if t.exu.lockout.isSome then 3 else 0) ∧
    (∀ i : SignalId, signal t i = ⟨.absent, none, none, none, none, none⟩) ∧
    (∀ j : Fin 10, t.lnk.produced[j] = ⟨0, none⟩) ∧
    t.lnk.good = 0 ∧ t.lnk.bad = 0 ∧ t.lnk.short = 0 ∧ t.lnk.badSince = 0 ∧ t.lnk.lastNumber = none ∧
    t.mge = ⟨.idle, none, none, 0, 0, 0⟩ ∧
    t.mdc.notReady = true ∧ t.mdc.awaited = [] ∧ t.mdc.strap = s.lines.straps ∧
    t.mdc.cause = (match c with
      | .powerOnReset => ResetCause.powerOn
      | .rstnReset => ResetCause.rstnLine
      | _ => ResetCause.resetRequest) ∧
    t.lst.limits = none ∧ t.lst.op = some (.startRead 0) ∧ (∀ h : HoodId, t.lst.waiting[h] = none) ∧
    (s.lst.op = none → t.lst.storage = s.lst.storage) ∧
    (∀ t0 b, c ≠ .powerOnReset → (s.lst.op = some (.write t0 b) ∨ s.lst.op = some (.save t0 b)) →
      t.lst.storage = putBlock b))

/-- RSTN becoming active changes nothing but the line; its release on a part that is not held changes nothing
(assumption 2); while the line is active no command but a power-on reset and the release changes anything but
the level of a line (R197; what a held part does with commands is the model's choice, assumption 13). -/
def Obligations.HeldInReset : Prop :=
  (∀ s : State, exec .rstnAssertion s = .next { s with lines := { s.lines with rstn := true } }) ∧
  (∀ s : State, Running s → exec .rstnReset s = .next s) ∧
  ∀ (c : Instr) (s : State), s.lines.rstn = true → c ≠ .powerOnReset → c ≠ .rstnReset →
    ∃ l : Lines, exec c s = .next { s with lines := l } ∧ l.rstn = true ∧ l.straps = s.lines.straps

/-! ### Tracking -/

/-- ENCODER_COUNT (R4, R5): with C in force a forward count adds 10,000 to the remainder and moves the
position by 1 when C is reached, a backward count the reverse; any other change gives no count, and
nothing moves without a geometry.
SPEED_SAMPLE at a sampling point: the speed is the travel × 24, the sampled position the position, and
the next sampling point 250 ms on (R7), past the wrap of machine time too, which is the model's choice
(assumption 41); at any other moment the command changes nothing (assumption 2). -/
def Obligations.EncoderCountAndSpeedSample : Prop :=
  (∀ (s : State) (a b : Bool), Running s →
    let u : State := { s with lines := { s.lines with encA := a, encB := b } }
    let now := (s.lines.encA, s.lines.encB)
    (activeGeometry s = none → exec (.encoderCount a b) s = .next u) ∧
    (∀ g : Geometry, activeGeometry s = some g → (a, b) = nextPair now →
      (s.trk.remainder + 10000 < g.countsPerMetre →
        exec (.encoderCount a b) s =
          .next { u with trk := { s.trk with remainder := s.trk.remainder + 10000 } }) ∧
      (g.countsPerMetre ≤ s.trk.remainder + 10000 → ∃ t, exec (.encoderCount a b) s = .next t ∧
        t.trk.remainder = s.trk.remainder + 10000 - g.countsPerMetre ∧ t.trk.pos = s.trk.pos + 1 ∧
        Untouched u t ∧ t.mge = s.mge ∧ Framed s t trackSlots [] [])) ∧
    (∀ g : Geometry, activeGeometry s = some g → now = nextPair (a, b) →
      (10000 ≤ s.trk.remainder →
        exec (.encoderCount a b) s =
          .next { u with trk := { s.trk with remainder := s.trk.remainder - 10000 } }) ∧
      (s.trk.remainder < 10000 → ∃ t, exec (.encoderCount a b) s = .next t ∧
        t.trk.remainder = s.trk.remainder + g.countsPerMetre - 10000 ∧ t.trk.pos = s.trk.pos - 1 ∧
        Untouched u t ∧ t.mge = s.mge ∧ Framed s t trackSlots [] [])) ∧
    ((a, b) ≠ nextPair now → now ≠ nextPair (a, b) → exec (.encoderCount a b) s = .next u)) ∧
  (∀ s : State, Running s →
    (s.now = s.trk.nextSample → ∃ t, exec .speedSample s = .next t ∧
      t.trk = { s.trk with
        speed := (s.trk.pos - s.trk.sampledPos).toInt * 24
        sampledPos := s.trk.pos
        nextSample := s.trk.nextSample + 250 } ∧
      Untouched s t ∧ t.mge = s.mge ∧ Framed s t [] [] [] ∧ PotKept s t) ∧
    (s.now ≠ s.trk.nextSample → exec .speedSample s = .next s))

/-- A position change (R6, R8, R12), of either direction, with the entry positions of the queue distinct. The
highest position goes up with it alone, and CONVEYOR_REVERSE is live while that is more than 50 dmm past it.
Each window of each board opens once its leading location is S − a or more, and an open one closes once its
trailing location is greater than S + b. An eye PENDING at p is confirmed when the position is past p by the
confirm distance or more, with the effects of a confirmed exit or entry. The order is the model's choice
(assumption 9): reverse, windows, contact, exit eye, lost limit, contact, entry eye; each window judged as
`judgeWindowOf` does. -/
def Obligations.PositionChange : Prop :=
  ∀ (s : State) (a b : Bool) (g : Geometry) (pos : Pos) (rest : Nat), Running s →
    activeGeometry s = some g → (s.trk.queue.map fun x => x.data.pIn).Nodup →
    let now := (s.lines.encA, s.lines.encB)
    ((a, b) = nextPair now ∧ g.countsPerMetre ≤ s.trk.remainder + 10000 ∧ pos = s.trk.pos + 1 ∧
        rest = s.trk.remainder + 10000 - g.countsPerMetre) ∨
      (now = nextPair (a, b) ∧ s.trk.remainder < 10000 ∧ pos = s.trk.pos - 1 ∧
        rest = s.trk.remainder + g.countsPerMetre - 10000) →
    let high := if 0 < (pos - s.trk.high).toInt then pos else s.trk.high
    let e : Int := (g.sprayPoint : Int) + g.nozzleLead
    let opens (i : WindowId) : Int := match i with
      | .spray => e
      | .zone k => (g.zones[k].start : Int) - g.zones[k].lead
      | .boost => (g.mainWave : Int) - g.boostLead
      | .chip => (g.chipWave : Int) - g.chipLead
    let closes (i : WindowId) : Int := match i with
      | .spray => e
      | .zone k => (g.zones[k].stop : Int) + g.zones[k].lag
      | .boost => (g.mainWave : Int) + g.boostLag
      | .chip => (g.chipWave : Int) + g.chipLag
    let turned (x : Board) (i : WindowId) : WindowState :=
      let lead := (pos - x.data.pIn).toInt
      let trail := match x.data.len with
        | some n => lead - n
        | none => 0
      match x.windows.get i with
      | .before => if opens i ≤ lead then .opened else .before
      | .opened => if closes i < trail then .closed else .opened
      | .closed => .closed
    let u : State := { s with
      lines := { s.lines with encA := a, encB := b }
      trk := { s.trk with pos := pos, remainder := rest } }
    ∃ v t, exec (.encoderCount a b) s = .next t ∧ v = judgeAllWindows (settle (judgeReverse u)) ∧
      v.trk = { s.trk with pos := pos, remainder := rest, high := high, queue := v.trk.queue } ∧
      Untouched u v ∧ v.mge = s.mge ∧
      (v.trk.queue.map fun x => (x.data.pIn, x.data.tag, x.data.len, x.contactBegun,
          allWindows.map x.windows.get)) =
        (s.trk.queue.map fun x => (x.data.pIn, x.data.tag, x.data.len, x.contactBegun,
          allWindows.map (turned x))) ∧
      SlotJudged s v slotReverse (50 < (high - pos).toInt) 0 ∧
      (let x := judgeContacts v
      let y := match s.trk.exitEye with
        | .pending p t0 => if (g.confirm : Int) ≤ (pos - p).toInt then confirmExit x g p t0 else x
        | .clear => x
        | .confirmed => x
      let z := judgeContacts (judgeLost y g)
      let w := match s.trk.entryEye with
        | .pending p t0 => if (g.confirm : Int) ≤ (pos - p).toInt then confirmEntry z p t0 else z
        | .clear => z
        | .confirmed => z
      t = settle w)

/-- The edges of the two eyes (R8): an activation in CLEAR is PENDING with position and time, a deactivation
discards a pending activation, and the exit eye's from CONFIRMED has no other effect.
The BES deactivation of a confirmed entry eye fixes the length of the record awaiting its trailing edge,
at least 1, judges LENGTH_MISMATCH against an expected length, and drops the reference; without a
reference it fixes nothing (R10). -/
def Obligations.EyeEdges : Prop :=
  ((∀ s : State, Running s → s.lines.bes = false → s.trk.entryEye = .clear →
    exec .entryEyeActivation s = .next { s with
      lines := { s.lines with bes := true }
      trk := { s.trk with entryEye := .pending s.trk.pos s.now } }) ∧
  (∀ s : State, Running s → s.lines.bxs = false → s.trk.exitEye = .clear →
    exec .exitEyeActivation s = .next { s with
      lines := { s.lines with bxs := true }
      trk := { s.trk with exitEye := .pending s.trk.pos s.now } }) ∧
  (∀ (s : State) (p : Pos) (t0 : Time), Running s → s.lines.bes = true →
    s.trk.entryEye = .pending p t0 → s.trk.awaiting = none →
    exec .entryEyeDeactivation s = .next { s with
      lines := { s.lines with bes := false }, trk := { s.trk with entryEye := .clear } }) ∧
  (∀ s : State, Running s → s.lines.bxs = true →
    exec .exitEyeDeactivation s = .next { s with
      lines := { s.lines with bxs := false }, trk := { s.trk with exitEye := .clear } })) ∧
  ((∀ (s : State) (p : Pos) (b : Board) (g : Geometry), Running s → s.lines.bes = true →
    s.trk.entryEye = .confirmed → s.trk.awaiting = some p → findBoard s p = some b →
    activeGeometry s = some g → ∃ t, exec .entryEyeDeactivation s = .next t ∧
      t.trk.entryEye = .clear ∧ t.trk.awaiting = none ∧ t.trk.pos = s.trk.pos ∧
      t.trk.ring = s.trk.ring ∧ t.trk.queue.length = s.trk.queue.length ∧
      t.trk.entered = s.trk.entered ∧ t.trk.completed = s.trk.completed ∧
      Untouched { s with lines := { s.lines with bes := false } } t ∧ t.mge = s.mge ∧
      Framed s t trackSlots [] [] ∧
      ∃ (b' : Board) (n : Nat), findBoard t p = some b' ∧ b'.data.len = some n ∧
        (n : Int) = max 1 (s.trk.pos - p).toInt ∧
        b'.data.tag = b.data.tag ∧ b'.data.recipe = b.data.recipe ∧ b'.data.tIn = b.data.tIn ∧
        b'.data.expected = b.data.expected ∧ b'.data.preheat = b.data.preheat ∧
        b'.data.flags = { b.data.flags with lengthMismatch := b.data.flags.lengthMismatch ||
          (match b.data.expected with
            | some e => decide ((g.lengthTol : Int) < |(n : Int) - e|)
            | none => false) }) ∧
  ∀ s : State, Running s → s.lines.bes = true → s.trk.entryEye = .confirmed → s.trk.awaiting = none →
    exec .entryEyeDeactivation s = .next { s with
      lines := { s.lines with bes := false }, trk := { s.trk with entryEye := .clear } })

/-- ANNOUNCE (R13): the three checks in order, the first failure answered with nothing else changed; an
announcement that passes joins the ring as its newest and ends a SETBACK (R113). What the request leaves in
MGE beside its answer is assumption 3. -/
def Obligations.Announce : Prop :=
  ∀ (s : State) (rid : Byte) (tag recipe : Nat) (expected : Option Nat) (skip : Bool), Running s →
    let good := 1 ≤ tag ∧ tag ≤ 65535 ∧ (∀ n, expected = some n → 1 ≤ n ∧ n ≤ 60000) ∧
      ∃ r : RecipeId, r.val = recipe ∧ s.tbs.recipe.committed = true ∧ (activeRecipe s r).isSome = true
    let held := (∃ a ∈ s.trk.ring, a.tag = tag) ∨ ∃ b ∈ s.trk.queue, b.data.tag = tag
    let c := Instr.announce rid tag recipe expected skip
    (¬ good → exec c s = .next (onlyAnswered s rid 5 (refused .range))) ∧
    (good → held → exec c s = .next (onlyAnswered s rid 5 (refused .duplicateTag))) ∧
    (good → ¬ held → 16 ≤ s.trk.ring.length →
      exec c s = .next (onlyAnswered s rid 5 (refused .ringFull))) ∧
    (good → ¬ held → s.trk.ring.length < 16 → ∃ t r, exec c s = .next t ∧ r.val = recipe ∧
      t.trk = { s.trk with ring := s.trk.ring ++ [⟨tag, r, expected, skip⟩] } ∧
      t.mge = answered s rid 5 (done (put8 (s.trk.ring.length + 1))) ∧ Untouched s t ∧
      (s.pot.state = .setback → t.pot.state = .recovering ∨ t.pot.state = .ready) ∧
      (s.pot.state ≠ .setback → PotKept s t) ∧ Framed s t [] [] [])

/-- ANNOUNCE_WITHDRAW (R14): tag 0 is refused RANGE, a tag no announcement holds NOT_FOUND; otherwise the
announcement with that tag leaves the ring, the rest keep their order, and DONE carries their number. -/
def Obligations.AnnounceWithdraw : Prop :=
  ∀ (s : State) (rid : Byte) (tag : Nat), Running s →
    (tag = 0 → OnlyAnswers (exec (.announceWithdraw rid tag) s) s rid 6 (refused .range)) ∧
    (tag ≠ 0 → (∀ a ∈ s.trk.ring, a.tag ≠ tag) →
      OnlyAnswers (exec (.announceWithdraw rid tag) s) s rid 6 (refused .notFound)) ∧
    (tag ≠ 0 → (∃ a ∈ s.trk.ring, a.tag = tag) → ∃ t, exec (.announceWithdraw rid tag) s = .next t ∧
      t.trk = { s.trk with ring := s.trk.ring.filter fun a => a.tag ≠ tag } ∧
      t.mge.response =
        some ⟨rid, 6, .done, 0, put8 (s.trk.ring.filter fun a => a.tag ≠ tag).length, 0⟩ ∧
      Untouched s t ∧ Framed s t [] [] [])

/-- BOARD_READ (R23): up to four of the oldest completion records with the discard count, which are removed
and zeroed; nothing else changes. What the request leaves in MGE beside its answer is assumption 3. The layout
of the fields is the model's choice (assumption 11). -/
def Obligations.BoardRead : Prop :=
  ∀ (s : State) (rid : Byte), Running s →
    exec (.boardRead rid) s = .next { s with
      trk := { s.trk with completions := s.trk.completions.drop 4, discards := 0 }
      mge := answered s rid 7 (done (put8 (s.trk.completions.take 4).length ++ put8 s.trk.discards ++
        (s.trk.completions.take 4).flatMap putCompletion)) }

/-- TRACK_PURGE (R24): every board completes as PURGED, oldest first: the newest 16 of them, or all, stand last
in the completion queue in that order, with their tag, entry position and length and no exit time; the records
before them are the newest of those it held, and each it discarded is counted, saturating at 255 (R22). PURGED
latches with their number, the counts keep their relation, and the withdraw option empties the ring. What the
request leaves in MGE beside its answer is assumption 3. -/
def Obligations.TrackPurge : Prop :=
  ∀ (s : State) (rid : Byte) (withdraw : Bool), Running s →
    ∃ t, exec (.trackPurge rid withdraw) s = .next t ∧
      let n := s.trk.queue.length
      let k := min 16 n
      let c := s.trk.completions.length
      let older := t.trk.completions.length - k
      t.trk.queue = [] ∧ t.trk.ring = (if withdraw then [] else s.trk.ring) ∧
      t.trk.entered = s.trk.entered ∧
      t.trk.completed = s.trk.completed + BitVec.ofNat 32 n ∧
      ((t.trk.completions.drop older).map fun x =>
          (x.data.tag, x.data.pIn, x.data.len, x.outcome, x.exitTime)) =
        ((s.trk.queue.drop (n - k)).map fun b =>
          (b.data.tag, b.data.pIn, b.data.len, BoardOutcome.purged, none)) ∧
      (c ≤ 16 → t.trk.completions.length = min 16 (c + n) ∧
        t.trk.completions.take older = s.trk.completions.drop (c - older) ∧
        t.trk.discards = if c + n ≤ 16 then s.trk.discards else min 255 (s.trk.discards + (c + n - 16))) ∧
      t.ilu.slots[slotPurged].latched = true ∧ t.ilu.slots[slotPurged].detail = s.trk.queue.length ∧
      t.trk.pos = s.trk.pos ∧ t.trk.entryEye = s.trk.entryEye ∧ t.trk.exitEye = s.trk.exitEye ∧
      t.mge = answered s rid 13 (done (put8 s.trk.queue.length ++
        put8 (if withdraw then s.trk.ring.length else 0))) ∧
      Untouched s t ∧ Framed s t [slotPurged, slotOverrun, slotFluxTol, slotWaveNotReady] [] []

/-- A confirmed BES activation (R16, R17): outside RUN it latches ADMIT_VIOLATION with detail 0; behind the
newest board it makes no record; with 24 records it latches TRACK_OVERFLOW; otherwise it makes the
record of the oldest announcement, or of the default recipe, flagged by the entry permit the last good
frame carried. -/
def Obligations.ConfirmedEntry : Prop :=
  ∀ (s : State) (p : Pos) (t0 : Time),
    let u := confirmEntry s p t0
    let same := { s.trk with entryEye := EyeState.confirmed, awaiting := none }
    (Untouched s u ∧ u.mge = s.mge ∧ Framed s u trackSlots [] []) ∧
    (s.mdc.mode ≠ .run → u.trk = same ∧ u.ilu.slots[slotAdmitViolation].latched = true ∧
      u.ilu.slots[slotAdmitViolation].detail = 0) ∧
    (s.mdc.mode = .run → behindNewest s p = true → u = { s with trk := same }) ∧
    (s.mdc.mode = .run → behindNewest s p = false → 24 ≤ s.trk.queue.length → u.trk = same ∧
      u.ilu.slots[slotTrackOverflow].latched = true ∧
      u.ilu.slots[slotTrackOverflow].detail = ((s.trk.ring.head?.map fun a => a.tag).getD 0 : Nat)) ∧
    (s.mdc.mode = .run → behindNewest s p = false → s.trk.queue.length < 24 →
      u.trk.entryEye = .confirmed ∧ u.trk.awaiting = some p ∧ u.trk.ring = s.trk.ring.tail ∧
      u.trk.queue.length = s.trk.queue.length + 1 ∧ u.trk.entered = s.trk.entered + 1 ∧
      u.trk.completed = s.trk.completed ∧ u.pot.state ≠ .setback ∧
      ∃ b, u.trk.queue.getLast? = some b ∧ b.data.pIn = p ∧ b.data.tIn = t0 ∧ b.data.len = none ∧
        b.data.tag = ((s.trk.ring.head?.map fun a => a.tag).getD 0) ∧
        b.data.recipe = (match s.trk.ring.head? with
          | some a => some a.recipe
          | none => defaultRecipe s) ∧
        b.data.expected = s.trk.ring.head?.bind (fun a => a.expected) ∧
        b.data.flags = ⟨s.trk.ring.isEmpty, !producedPermit s, false,
          (s.trk.ring.head?.map fun a => a.skipFlux).getD false⟩ ∧
        (producedPermit s = false → u.ilu.slots[slotAdmitViolation].latched = true ∧
          u.ilu.slots[slotAdmitViolation].detail = b.data.tag))

/-- The oldest board leaves by the exit eye when its leading location at the activation lies within the exit
tolerance, and else PHANTOM_BOARD latches with its tag (R19); beyond the lost limit it is LOST and
BOARD_LOST latches (R20). Only the oldest board leaves, by the three stages of R21. With an empty queue
PHANTOM_BOARD latches with detail 0, and outside RUN a confirmed activation matches nothing and latches nothing
(R19): each moves nothing but the eye. -/
def Obligations.ExitAndLoss : Prop :=
  (∀ (s : State) (g : Geometry) (p : Pos) (t0 : Time),
    let seen : State := { s with trk := { s.trk with exitEye := .confirmed } }
    let t := confirmExit s g p t0
    (s.mdc.mode ≠ .run → t = seen) ∧
    (s.mdc.mode = .run → s.trk.queue = [] → t.trk = seen.trk ∧
      t.ilu.slots[slotPhantom] = { s.ilu.slots[slotPhantom] with latched := true, detail := 0 } ∧
      Untouched s t ∧ t.mge = s.mge ∧ Framed s t [slotPhantom] [] [] ∧ PotKept s t)) ∧
  ∀ (s : State) (g : Geometry) (b : Board) (rest : List Board) (p : Pos) (t0 : Time),
    s.mdc.mode = .run → s.trk.queue = b :: rest → s.trk.completions.length ≤ 16 →
    let left (u : State) (out : BoardOutcome) (at_ : Option Time) : Prop :=
      u.trk.queue.length = rest.length ∧
      (u.trk.queue.map fun x => x.data.tag) = (rest.map fun x => x.data.tag) ∧
      u.trk.completed = s.trk.completed + 1 ∧ u.trk.entered = s.trk.entered ∧
      Untouched s u ∧ u.mge = s.mge ∧ Framed s u trackSlots [] [] ∧
      ∃ c, u.trk.completions.getLast? = some c ∧ c.data.tag = b.data.tag ∧ c.data.pIn = b.data.pIn ∧
        c.data.len = b.data.len ∧ c.outcome = out ∧ c.exitTime = at_
    let loc : Int := (p - b.data.pIn).toInt
    ((g.exitLoc : Int) - g.exitTol ≤ loc → loc ≤ (g.exitLoc : Int) + g.exitTol →
      left (confirmExit s g p t0) .exited (some t0)) ∧
    (loc < (g.exitLoc : Int) - g.exitTol ∨ (g.exitLoc : Int) + g.exitTol < loc →
      (confirmExit s g p t0).trk = { s.trk with exitEye := .confirmed } ∧
      (confirmExit s g p t0).ilu.slots[slotPhantom].latched = true ∧
      (confirmExit s g p t0).ilu.slots[slotPhantom].detail = b.data.tag) ∧
    ((g.exitLoc : Int) + g.exitTol + g.confirm < leading s b.data →
      left (judgeLost s g) .lost none ∧ (judgeLost s g).ilu.slots[slotBoardLost].latched = true ∧
      (judgeLost s g).ilu.slots[slotBoardLost].detail = b.data.tag) ∧
    (leading s b.data ≤ (g.exitLoc : Int) + g.exitTol + g.confirm → judgeLost s g = s)

/-- The completion queue (R22): a record appended to fewer than 16 is the newest; one that finds 16 first
discards the oldest, which is counted, saturating at 255, and latches COMPLETION_OVERRUN with the discarded
record's tag. -/
def Obligations.CompletionQueueOverruns : Prop :=
  ∀ (s : State) (c : Completion),
    (s.trk.completions.length < 16 → appendCompletion s c =
      { s with trk := { s.trk with completions := s.trk.completions ++ [c] } }) ∧
    (s.trk.completions.length = 16 → ∃ old rest, s.trk.completions = old :: rest ∧
      (appendCompletion s c).trk = { s.trk with
        completions := rest ++ [c], discards := min 255 (s.trk.discards + 1) } ∧
      (appendCompletion s c).ilu.slots[slotOverrun].live = s.ilu.slots[slotOverrun].live ∧
      (appendCompletion s c).ilu.slots[slotOverrun].latched = true ∧
      (appendCompletion s c).ilu.slots[slotOverrun].detail = old.data.tag ∧
      ∀ k : SlotId, k ≠ slotOverrun →
        (appendCompletion s c).ilu.slots[k] = s.ilu.slots[k])

/-! ### Tables -/

/-- TABLE_STAGE (R29): refused RANGE with nothing staged when the table, a target or an enumerated field is
none; otherwise the staged copy of that table alone changes and DONE carries the number of items. Items are
applied in the order given, the later of two for one target standing; the active copy and the flag are unchanged
(R29). The cases in which it is refused are those R29 names: a table outside the eleven, an item of a target
that does not exist, an enumerated field that names nothing. That a list of no items is none of them is the
model's choice (assumption 42). What the request leaves in MGE beside its answer is assumption 3. -/
def Obligations.TableStage : Prop :=
  (∀ (s : State) (rid : Byte) (q : StageRequest), Running s →
    (stageOk q = false → exec (.tableStage rid q) s = .next (onlyAnswered s rid 2 (refused .range))) ∧
    (stageOk q = true → exec (.tableStage rid q) s = .next { s with
      tbs := (match q with
        | .slotMap l => { s.tbs with slotMap := s.tbs.slotMap.stage l }
        | .geometry l => { s.tbs with geometry := s.tbs.geometry.stage l }
        | .loop l => { s.tbs with loop := s.tbs.loop.stage l }
        | .gate l => { s.tbs with gate := s.tbs.gate.stage l }
        | .phase l => { s.tbs with phase := s.tbs.phase.stage l }
        | .recipe l => { s.tbs with recipe := s.tbs.recipe.stage l }
        | .fluxMap l => { s.tbs with fluxMap := s.tbs.fluxMap.stage l }
        | .nozzle l => { s.tbs with nozzle := s.tbs.nozzle.stage l }
        | .pot l => { s.tbs with pot := s.tbs.pot.stage l }
        | .extraction l => { s.tbs with extraction := s.tbs.extraction.stage l }
        | .action l => { s.tbs with action := s.tbs.action.stage l }
        | .unknown _ => s.tbs)
      mge := answered s rid 2 (done (put8 (stageCount q))) })) ∧
  (∀ (H E : Type) (n : Nat) (t : Table H E n) (l : List (StageItem H E)),
    (t.stage l).active = t.active ∧ (t.stage l).committed = t.committed ∧ (t.stage []).staged = t.staged ∧
    (∀ c : Content H, (t.stage (l ++ [.header c])).staged.header = contentValue c ∧
      (t.stage (l ++ [.header c])).staged.entries = (t.stage l).staged.entries) ∧
    (∀ (i : Fin n) (c : Content E),
      (t.stage (l ++ [.entry i.val c])).staged.entries[i] = contentValue c ∧
      (t.stage (l ++ [.entry i.val c])).staged.header = (t.stage l).staged.header ∧
      ∀ j : Fin n, j ≠ i →
        (t.stage (l ++ [.entry i.val c])).staged.entries[j] = (t.stage l).staged.entries[j])) ∧
  ∀ q : StageRequest, stageOk q = true ↔ StageGood q

/-- TABLE_DISCARD (R30): for each of the eleven tables the active copy over the staged copy, header and
entries alike, and DONE; a number outside 1 to 11 is refused RANGE. -/
def Obligations.TableDiscard : Prop :=
  ∀ (s : State) (rid : Byte), Running s →
    let copied (n : Nat) (b : Tbs) : Prop :=
      OnlyAnswers (exec (.tableDiscard rid n) s) { s with tbs := b } rid 4 (done [])
    copied 1 { s.tbs with slotMap := discardedTable s.tbs.slotMap } ∧
    copied 2 { s.tbs with geometry := discardedTable s.tbs.geometry } ∧
    copied 3 { s.tbs with loop := discardedTable s.tbs.loop } ∧
    copied 4 { s.tbs with gate := discardedTable s.tbs.gate } ∧
    copied 5 { s.tbs with phase := discardedTable s.tbs.phase } ∧
    copied 6 { s.tbs with recipe := discardedTable s.tbs.recipe } ∧
    copied 7 { s.tbs with fluxMap := discardedTable s.tbs.fluxMap } ∧
    copied 8 { s.tbs with nozzle := discardedTable s.tbs.nozzle } ∧
    copied 9 { s.tbs with pot := discardedTable s.tbs.pot } ∧
    copied 10 { s.tbs with extraction := discardedTable s.tbs.extraction } ∧
    copied 11 { s.tbs with action := discardedTable s.tbs.action } ∧
    ∀ n : Nat, n < 1 ∨ 11 < n →
      OnlyAnswers (exec (.tableDiscard rid n) s) s rid 4 (refused .range)

/-- TABLE_COMMIT (R32, R34): a number outside 1 to 11 is refused RANGE, an offence INVALID_TABLE with its
report, then WRONG_MODE, LOOPS_ACTIVE and IN_USE, each with nothing changed; a commit that passes makes the
staged copy of that table active, sets its flag, and is answered DONE. What the request leaves in MGE beside its
answer is assumption 3; the form of the report is the model's choice (assumption 12), and so is the order of the
effects within the event (assumption 34). What it puts in force at once: a loop table each zone's setpoint from
the new idle setpoint, each integral and demand clamped to the new Umax, state and PV kept (R38), but that a
running runaway window already past its new duration is judged in the event and may fault its loop (R83,
assumption 48); a phase table the timing of each phase that had none (R92); a nozzle table the entries of closed
valves, those of open ones waiting (R43), with every open valve in doubt where FLUX.PRESS is not VALID or below
the minimum now in force (R54, and assumption 23 where the commit does not raise it or the valve opens in the
event); a pot table the conveyor speed command and the setpoint of loop P (R44, R75); an extraction table each
hood's requirement and fan (R45, R136). A setpoint with no limits in force is not clamped (assumption 17). -/
def Obligations.TableCommit : Prop :=
  ∀ (s : State) (rid : Byte) (n : Nat), Running s →
    let c := Instr.tableCommit rid n
    let inConfig := n = 1 ∨ n = 2 ∨ n = 4 ∨ n = 5 ∨
      (n = 9 ∧ speedCommand s.tbs.pot.staged ≠ speedCommand s.tbs.pot.active)
    let loopsOff := n = 1 ∨ n = 4 ∨ n = 5
    let placed := inConfig → s.mdc.mode = .config
    let cold := loopsOff → ∀ l : LoopId, (getLoop s l).mode = .off
    (n < 1 ∨ 11 < n → exec c s = .next (onlyAnswered s rid 3 (refused .range))) ∧
    (1 ≤ n → n ≤ 11 →
      (∀ r, validate s n = some r →
        exec c s = .next (onlyAnswered s rid 3 (refusedWith .invalidTable (putReport r)))) ∧
      (validate s n = none → ¬ placed → exec c s = .next (onlyAnswered s rid 3 (refused .wrongMode))) ∧
      (validate s n = none → placed → ¬ cold →
        exec c s = .next (onlyAnswered s rid 3 (refused .loopsActive))) ∧
      (validate s n = none → placed → cold → ∀ i, inUse s n = some i →
        exec c s = .next (onlyAnswered s rid 3 (refusedWith .inUse (put8 i)))) ∧
      (validate s n = none → placed → cold → inUse s n = none → ∃ t, exec c s = .next t ∧
        t.mge = answered s rid 3 (done []) ∧ t.lines = s.lines ∧ t.now = s.now ∧ t.mdc = s.mdc ∧
        t.trk.pos = s.trk.pos ∧ t.trk.ring = s.trk.ring ∧
        t.trk.queue.length = s.trk.queue.length ∧
        t.lst.limits = s.lst.limits ∧ t.lst.storage = s.lst.storage ∧ FaultsKept s t [] ∧
        (n ≠ 1 → t.lnk = s.lnk) ∧ (n ≠ 1 → n ≠ 3 → LoopsKept s t []) ∧
        (n = 2 ∨ n = 5 ∨ n = 6 ∨ n = 7 ∨ n = 8 ∨ n = 11 → Framed s t [] [] [] ∧ PotKept s t) ∧
        (n = 1 → t.tbs = { s.tbs with slotMap := committedTable s.tbs.slotMap } ∧
          (∀ i : SignalId, signal t i = ⟨.absent, none, none, none, none, none⟩) ∧
          t.lnk.produced = s.lnk.produced) ∧
        (n = 2 → t.tbs = { s.tbs with geometry := committedTable s.tbs.geometry } ∧
          t.trk.remainder = 0) ∧
        (n = 3 → t.tbs = { s.tbs with loop := committedTable s.tbs.loop } ∧ DemandLaw t ∧
          (∀ (k : ZoneId) (e : LoopEntry), s.tbs.loop.staged.entries[zoneLoop k] = some e →
            (∀ b ∈ s.trk.queue, b.windows.zone[k] ≠ .opened) →
            (getLoop t (zoneLoop k)).setpoint = some (clamped s (zoneLoop k) e.idle)) ∧
          ∀ (l : LoopId) (e : LoopEntry), s.tbs.loop.staged.entries[l] = some e →
            let x := getLoop s l
            let y := getLoop t l
            let due := ∃ w, x.window = some w ∧ e.runawayWindow * 1000 ≤ elapsed s.now w.start
            let short := ∃ w v, x.window = some w ∧ x.pv = some v ∧ v - w.pvStart < e.runawayRise
            let fails := due ∧ (e.umax < 900 → x.demand < 900) ∧ loopHeld s l = false ∧ short
            y.pv = x.pv ∧ y.integral = min x.integral (e.umax * 256) ∧
            (¬ due ∨ (x.mode = .active ∧ ¬ fails) →
              y.mode = x.mode ∧ y.causes = x.causes ∧ y.demand = min x.demand e.umax) ∧
            (x.mode = .active → fails →
              y.mode = .fault ∧ y.causes = ⟨false, false, true⟩ ∧ y.demand = 0)) ∧
        (n = 4 → t.tbs = { s.tbs with gate := committedTable s.tbs.gate } ∧
          (∀ (p : PhaseId) (k : Fin 4), (getPhase t p).pointers[k] = 0) ∧
          ∀ l : LoopId, t.fal.starve[l] = 0) ∧
        (n = 5 → t.tbs = { s.tbs with phase := committedTable s.tbs.phase } ∧ ∀ p : PhaseId,
          ((getPhase s p).frequency ≠ none → getPhase t p = getPhase s p) ∧
          ((getPhase s p).frequency = none → (getPhase t p).committedAt = some s.now ∧
            (getPhase t p).frequency = s.tbs.phase.staged.entries[p].map fun e => e.frequency)) ∧
        (n = 6 → t.tbs = { s.tbs with recipe := committedTable s.tbs.recipe }) ∧
        (n = 7 → t.tbs = { s.tbs with fluxMap := committedTable s.tbs.fluxMap }) ∧
        (n = 8 → t.tbs = { s.tbs with nozzle := committedTable s.tbs.nozzle } ∧ ∀ k : NozzleId,
          let e := s.tbs.nozzle.staged.entries[k]
          let placed := (getNozzle t k).inForce = e ∧ (getNozzle t k).waiting = none
          ((signal s sigFlux).state ≠ .valid ∨ (∃ v h, (signal s sigFlux).value = some v ∧
            s.tbs.nozzle.staged.header = some h ∧ v < h.minPress) →
            ∀ iv, (getNozzle t k).valve = some iv → iv.doubt = true) ∧
          ((getNozzle s k).valve = none → placed) ∧
          ((getNozzle s k).valve ≠ none → placed ∨ ((getNozzle t k).valve ≠ none ∧
            (getNozzle t k).inForce = (getNozzle s k).inForce ∧ (getNozzle t k).waiting = e))) ∧
        (n = 9 → t.tbs = { s.tbs with pot := committedTable s.tbs.pot } ∧
          ∀ e, s.tbs.pot.staged.entries[0] = some e → producedValue t 9 = e.conveyorSpeed ∧
            (getLoop t loopP).setpoint =
              some (clamped t loopP (if t.pot.state = .setback then e.setbackSp else e.runSp))) ∧
        (n = 10 → t.tbs = { s.tbs with extraction := committedTable s.tbs.extraction } ∧
          ∀ (h : HoodId) (e : ExtractionEntry), s.tbs.extraction.staged.entries[h] = some e →
            (getHood t h).requirement = some (match (getHood t h).level with
              | .full => e.reqFull
              | .reduced => e.reqReduced.getD 0
              | .least => e.reqLeast) ∧
            (getHood t h).fan = (match (getHood t h).level with
              | .full => e.fanFull
              | .reduced => e.fanReduced.getD 0
              | .least => e.fanLeast)) ∧
        (n = 11 → t.tbs = { s.tbs with action := committedTable s.tbs.action })))

/-- Validation and the in-use check (R33, R35 to R46): a staged table passes exactly when its header and entries
are filled as R36 to R46 ask and every field is within its range and relations; the report names the first
offence in the order of targets and fields, shown for MISSING, FIXED and OUT_OF_RANGE in the phase table,
DUPLICATE in the slot map, ORDER in the pot table, REFERENCE in the recipe table; and the in-use check stops at
the first referenced recipe, or map of a referenced recipe, whose staged and active contents differ. The numbers
of fields are the model's choice (assumption 12); that a field to be absent is FIXED when present is assumption
33. -/
def Obligations.TableValidation : Prop :=
  ∀ s : State,
    (∀ n : Nat, 1 ≤ n → n ≤ 11 → (validate s n = none ↔ StagedGood s n)) ∧
    (∀ n i : Nat, inUse s n = some i ↔ Blocks s n i ∧ ∀ j, j < i → ¬ Blocks s n j) ∧
    (∀ n : Nat, inUse s n = none ↔ ∀ i, ¬ Blocks s n i) ∧
    (∀ i : PhaseId, (∀ j : PhaseId, j < i → Within s.tbs.phase.staged.entries[j] GoodPhase) →
      (s.tbs.phase.staged.entries[i] = none →
        validate s 5 = some ⟨.entry i.val, 0, none, .missing⟩) ∧
      ∀ e, s.tbs.phase.staged.entries[i] = some e →
        (¬ (e.frequency = 50 ∨ e.frequency = 60) →
          validate s 5 = some ⟨.entry i.val, 0, none, .fixed⟩) ∧
        (e.frequency = 50 ∨ e.frequency = 60 → 1000 < e.budget →
          validate s 5 = some ⟨.entry i.val, 1, none, .outOfRange⟩)) ∧
    (s.tbs.slotMap.staged.header = none → validate s 1 = some ⟨.header, 0, none, .missing⟩) ∧
    (∀ (i j : Fin 64) (e m : MapEntry), Within s.tbs.slotMap.staged.header (fun t => 10 ≤ t ∧ t ≤ 500) →
      (∀ k : Fin 64, k < i → Optionally s.tbs.slotMap.staged.entries[k]
        (GoodMapEntry s.tbs.slotMap.staged k)) →
      s.tbs.slotMap.staged.entries[i] = some e → e.signal ≤ 18 → j < i →
      s.tbs.slotMap.staged.entries[j] = some m → m.signal = e.signal →
      validate s 1 = some ⟨.entry i.val, 0, none, .duplicate⟩) ∧
    (∀ e : PotEntry, s.tbs.pot.staged.entries[0] = some e → 0 ≤ e.runSp → e.runSp < e.setbackSp →
      e.setbackSp ≤ 6000 → validate s 9 = some ⟨.entry 0, 1, none, .order⟩) ∧
    (∀ (i : RecipeId) (h : RecipeHeader) (r : Recipe) (m : Nat),
      s.tbs.recipe.staged.header = some h → h.defaultRecipe = none →
      (∀ k : RecipeId, k < i → Optionally s.tbs.recipe.staged.entries[k] (GoodRecipe s)) →
      s.tbs.recipe.staged.entries[i] = some r → r.fluxMap = some m → m ≤ 7 → activeMap s m = none →
      validate s 6 = some ⟨.entry i.val, 0, none, .reference⟩)

/-- The reads change nothing but MGE (R31, R156, R182, R195, R197): TABLE_READ is DONE where its table and first
target exist and refused RANGE where either does not; STATUS_READ is DONE from each item of its section and
refused RANGE from any other; LIMITS_READ is refused in STARTING; IDENT_READ carries the codes, the strap
address and the reset cause. What the request leaves in MGE beside its answer is assumption 3. The layout of the
fields (assumptions 11 and 29) and the items of each section (assumption 27: one for each nozzle, loop, phase,
gate, hood or signal and each thing held once) are the model's choice. -/
def Obligations.ReadsChangeNothing : Prop :=
  ∀ (s : State) (rid : Byte), Running s →
    (∀ (n : Nat) (k : CopyName) (first : Target) (count : Nat),
      let there := match first with
          | .header => n = 1 ∨ n = 6 ∨ n = 8
          | .entry i => (n = 1 ∧ i < 64) ∨ (n = 2 ∧ i < 1) ∨ (n = 3 ∧ i < 7) ∨ (n = 4 ∧ i < 16) ∨
              (n = 5 ∧ i < 3) ∨ (n = 6 ∧ i < 16) ∨ (n = 7 ∧ i < 8) ∨ (n = 8 ∧ i < 8) ∨
              (n = 9 ∧ i < 1) ∨ (n = 10 ∧ i < 2) ∨ (n = 11 ∧ i < 64)
      (there → ∃ r, exec (.tableRead rid n k first count) s = .next (onlyAnswered s rid 1 r) ∧
        r.status = .done) ∧
      (¬ there →
        exec (.tableRead rid n k first count) s = .next (onlyAnswered s rid 1 (refused .range)))) ∧
    (∀ count : Nat, 1 ≤ count →
      exec (.tableRead rid 2 .active (.entry 0) count) s = .next (onlyAnswered s rid 1 (done (
        putBool s.tbs.geometry.committed ++
        putBool (decide (s.tbs.geometry.staged ≠ s.tbs.geometry.active)) ++ put8 1 ++
        putOpt putGeometry (activeGeometry s))))) ∧
    (∀ (sec : StatusSection) (first : Nat),
      let items := match sec with
        | .trk | .tbs | .pot | .ilu | .mge | .mdc => 1
        | .flx => 9
        | .lpu => 7
        | .fal => 26
        | .exu => 3
        | .lnk => 30
      (first < items → ∃ r, exec (.statusRead rid sec first) s = .next (onlyAnswered s rid 9 r) ∧
        r.status = .done) ∧
      (items ≤ first →
        exec (.statusRead rid sec first) s = .next (onlyAnswered s rid 9 (refused .range)))) ∧
    exec (.statusRead rid .trk 0) s = .next (onlyAnswered s rid 9 (done (put8 1 ++
      put32 s.trk.pos.toNat ++ putS16 s.trk.speed ++ put8 s.trk.ring.length ++
      put8 s.trk.queue.length ++ put8 s.trk.completions.length ++ put8 s.trk.discards ++
      put32 s.trk.entered.toNat ++ put32 s.trk.completed.toNat))) ∧
    (s.mdc.mode = .starting →
      exec (.limitsRead rid) s = .next (onlyAnswered s rid 17 (refused .wrongMode))) ∧
    (∀ x, s.mdc.mode ≠ .starting → s.lst.limits = some x →
      exec (.limitsRead rid) s = .next (onlyAnswered s rid 17 (done (limitsBody s x)))) ∧
    exec (.identRead rid) s = .next (onlyAnswered s rid 19 (done (put32 1207 ++ put32 460 ++ put32 1 ++
      put8 s.mdc.strap.toNat ++ put8 (match s.mdc.cause with
        | .powerOn => 0
        | .rstnLine => 1
        | .resetRequest => 2)))) ∧
    ∃ r, exec (.alarmRead rid false) s = .next (onlyAnswered s rid 8 r) ∧ r.status = .done

/-! ### Fluxing -/

/-- STUCK_VALVE_EXPIRY (R58, R63): the valve closes, the nozzle is faulted and NOZZLE_STUCK latches with its
number; a test on it ends with cause STUCK; no other nozzle's fault flag changes. A valve that is closed,
or open for less than its max open time, leaves nothing changed (assumption 2).
VAPOUR_DWELL_EXPIRY (R61, R134): with no window and no valve open, fluxing active ends and hood F falls to
IDLE in RUN and to OFF elsewhere. NOZZLE_TEST_ELAPSED (R63): the test ends, its valve is no longer open for
it, and the last-test record holds the result with cause ELAPSED. That an expiry command changes nothing
before its time is the model's choice (assumption 2). -/
def Obligations.FluxTimersEnd : Prop :=
  (∀ (s : State) (n : NozzleId), Running s →
    (∀ iv, (getNozzle s n).valve = some iv → iv.maxOpen ≤ elapsed s.now iv.openedAt →
      ∃ t, exec (.stuckValveExpiry n) s = .next t ∧ (getNozzle t n).valve = none ∧
        (getNozzle t n).faulted = true ∧ t.ilu.slots[slotNozzleStuck].latched = true ∧
        t.ilu.slots[slotNozzleStuck].detail = n.val ∧
        (∀ d, s.flx.test = some ⟨n, d⟩ → t.flx.test = none ∧
          t.flx.lastTest = some ⟨n, d, elapsed s.now iv.openedAt,
            min 4294967295 (elapsed s.now iv.openedAt * iv.rate), iv.doubt, .stuck⟩) ∧
        ProcessOnly s t ∧ Framed s t [slotNozzleStuck] [] [n] ∧ PotKept s t) ∧
    ((getNozzle s n).valve = none → exec (.stuckValveExpiry n) s = .next s) ∧
    (∀ iv, (getNozzle s n).valve = some iv → elapsed s.now iv.openedAt < iv.maxOpen →
      exec (.stuckValveExpiry n) s = .next s)) ∧
  ((∀ (s : State) (t0 : Time), Running s → s.flx.dwellFrom = some t0 →
    (vapourDwell s ≤ elapsed s.now t0 → BarIdle s → ∃ t, exec .vapourDwellExpiry s = .next t ∧
      t.flx.dwellFrom = none ∧ t.flx.fluxing = false ∧
      (getHood t hoodF).level = (if s.mdc.mode = .run then .reduced else .least) ∧
      ProcessOnly s t ∧ Framed s t [] [] [] ∧ PotKept s t) ∧
    (elapsed s.now t0 < vapourDwell s → exec .vapourDwellExpiry s = .next s)) ∧
  (∀ (s : State) (n : NozzleId) (d : Nat) (iv : Interval), Running s → s.flx.test = some ⟨n, d⟩ →
    (getNozzle s n).valve = some iv →
    (d ≤ elapsed s.now iv.openedAt → ∃ t, exec .nozzleTestElapsed s = .next t ∧ t.flx.test = none ∧
      t.flx.lastTest = some ⟨n, d, elapsed s.now iv.openedAt,
        min 4294967295 (elapsed s.now iv.openedAt * iv.rate), iv.doubt, .elapsed⟩ ∧
      (∀ x, (getNozzle t n).valve = some x → x.owner ≠ .test) ∧
      ProcessOnly s t ∧ Framed s t [] [] [] ∧ PotKept s t) ∧
    (elapsed s.now iv.openedAt < d → exec .nozzleTestElapsed s = .next s)))

/-- Spray windows, valves and accounts (R49 to R55). The opening of a spray window makes an account with the
disposition of the table; its closing closes the board's valves, judges the outcome on the volume with theirs,
writes the flux part, removes the account, and latches FLUX_OUT_OF_TOL for LOW, HIGH and UNCERTAIN; a purge cuts
a TO_SPRAY account first (R57). After every event a nozzle that no test holds is open exactly while it is in the
current mask of the one covering board, enabled and not faulted, and then for that board. A closing credits
duration × rate, saturating, to the account of the interval's board, with the doubt. An interval open while
FLUX.PRESS becomes HELD, or at a sample below the minimum, is in doubt, and its board, or the test that runs on
it (`TestLaw`), with it if it closes in that event; at an opening the latest value counts as well (assumption
23), and a valve closed and opened in one event takes the entry that waited (assumption 22). That bit n of a mask
names nozzle n is the model's choice (assumption 54). -/
def Obligations.SprayAccounts : Prop :=
  (∀ (s : State) (g : Geometry) (b : Board), findBoard s b.data.pIn = some b →
    let e : Int := (g.sprayPoint : Int) + g.nozzleLead
    let put (x : WindowState) : State := updBoard s b.data.pIn fun y =>
      { y with windows := { y.windows with spray := x } }
    let disposition : Disposition := match boardRecipe s b.data with
      | none => .noMap
      | some r => if r.fluxMap = none then .noMap else if b.data.flags.skipFlux = true then .skipped
        else if 2 ≤ s.ilu.standing then .skipped else .toSpray
    (b.windows.spray = .before → e ≤ leading s b.data → judgeWindowOf g b.data.pIn s .spray =
      { put .opened with flx := { s.flx with
        accounts := s.flx.accounts ++ [⟨b.data.pIn, disposition, 0, false⟩] } }) ∧
    (b.windows.spray = .opened → e < trailing s b.data →
      judgeWindowOf g b.data.pIn s .spray = windowClosed (put .closed) .spray b.data false)) ∧
  (∀ (s : State) (b : BoardRecord) (purged : Bool) (a : Account) (x : Board),
    accountOf s b.pIn = some a → findBoard s b.pIn = some x →
    let t := windowClosed s .spray b purged
    let own (n : NozzleId) : Option Interval :=
      (getNozzle s n).valve.filter fun iv => decide (iv.owner = .board b.pIn)
    let paid := (allNozzles.map fun n => match own n with
      | some iv => elapsed s.now iv.openedAt * iv.rate
      | none => 0).sum
    let volume := min 4294967295 (a.volume + paid)
    let doubt := a.uncertain = true ∨ ∃ n iv, own n = some iv ∧ iv.doubt = true
    let target := ((boardRecipe s b).bind fun r => r.fluxTarget).getD 0
    let tol := ((boardRecipe s b).bind fun r => r.fluxTol).getD 0
    a.volume ≤ 4294967295 → ∃ out : FluxOutcome,
      (a.disposition = .noMap → out = .none) ∧ (a.disposition = .skipped → out = .skipped) ∧
      (a.disposition = .cut ∨ (a.disposition = .toSpray ∧ purged = true) → out = .cutShort) ∧
      (a.disposition = .toSpray → purged = false → (doubt → out = .uncertain) ∧
        (¬ doubt → volume < target * (100 - tol) / 100 → out = .low) ∧
        (¬ doubt → target * (100 - tol) / 100 ≤ volume → target * (100 + tol) / 100 < volume →
          out = .high) ∧
        (¬ doubt → target * (100 - tol) / 100 ≤ volume → volume ≤ target * (100 + tol) / 100 →
          out = .ok)) ∧
      (∃ y, findBoard t b.pIn = some y ∧ y.data = { x.data with flux := some ⟨out, volume⟩ } ∧
        y.windows = x.windows) ∧
      t.flx.accounts = s.flx.accounts.filter (fun c => c.board ≠ b.pIn) ∧
      (∀ n : NozzleId, ((own n).isSome = true → (getNozzle t n).valve = none) ∧
        (own n = none → getNozzle t n = getNozzle s n)) ∧
      (out = .low ∨ out = .high ∨ out = .uncertain → t.ilu.slots[slotFluxTol].latched = true ∧
        t.ilu.slots[slotFluxTol].detail = b.tag) ∧
      (¬ (out = .low ∨ out = .high ∨ out = .uncertain) → t.ilu = s.ilu)) ∧
  (∀ (s : State) (g : Geometry), activeGeometry s = some g →
    let t := settle s
    (∀ b, Covers t g b → (∀ c, Covers t g c → c = b) → ∀ n : NozzleId,
      (∀ iv, (getNozzle t n).valve = some iv → iv.owner ≠ .test) →
      ((getNozzle t n).valve ≠ none ↔ WantedFor t g b n) ∧
      ∀ iv, (getNozzle t n).valve = some iv → iv.owner = .board b.data.pIn) ∧
    ((∀ b, ¬ Covers t g b) → ∀ (n : NozzleId) (iv : Interval), (getNozzle t n).valve = some iv →
      iv.owner = .test)) ∧
  (∀ (s : State) (n : NozzleId) (iv : Interval), (getNozzle s n).valve = some iv →
    let t := closeValve s n
    t.flx.accounts = (s.flx.accounts.map fun a => if iv.owner = .board a.board then
      { a with
        volume := min 4294967295 (a.volume + elapsed s.now iv.openedAt * iv.rate)
        uncertain := a.uncertain || iv.doubt } else a) ∧
    t.flx.dwellFrom = some s.now ∧ (getNozzle t n).valve = none ∧ (getNozzle t n).waiting = none ∧
    ((getNozzle s n).waiting ≠ none → (getNozzle t n).inForce = (getNozzle s n).waiting) ∧
    ((getNozzle s n).waiting = none → (getNozzle t n).inForce = (getNozzle s n).inForce) ∧
    ∀ k : NozzleId, k ≠ n → getNozzle t k = getNozzle s k) ∧
  (∀ (s : State) (n : NozzleId) (o : ValveOwner) (e : NozzleEntry) (h : NozzleHeader),
    (getNozzle s n).inForce = some e → s.tbs.nozzle.active.header = some h → ∃ iv,
    (getNozzle (openValve s n o) n).valve = some iv ∧ iv.owner = o ∧ iv.openedAt = s.now ∧
    iv.rate = e.flow ∧ iv.maxOpen = h.maxOpen ∧ (iv.doubt = true ↔
      ¬ ((signal s sigFlux).state = .valid ∧ ∃ v, (signal s sigFlux).value = some v ∧ h.minPress ≤ v))) ∧
  (∀ (s : State) (n : NozzleId) (iv : Interval), Running s → (getNozzle s n).valve = some iv →
    let doubted (t : State) : Prop :=
      (∀ x, (getNozzle t n).valve = some x → x.doubt = true) ∧
      ((getNozzle t n).valve = none → ∀ a ∈ t.flx.accounts, iv.owner = .board a.board →
        a.uncertain = true) ∧
      (TestLaw s → ∀ d, s.flx.test = some ⟨n, d⟩ → t.flx.test = none →
        ∃ r, t.flx.lastTest = some r ∧ r.nozzle = n ∧ r.doubt = true)
    (∀ t0 m hold, (signal s sigFlux).state = .valid → (signal s sigFlux).fresh = some t0 →
      mapOf s 8 = some m → m.hold = some hold → hold ≤ elapsed s.now t0 →
      ∃ t, exec (.holdTimeExpiry sigFlux) s = .next t ∧ doubted t) ∧
    (∀ (v : Int) (seq : Nat) (p : Byte) (h : NozzleHeader), s.tbs.nozzle.active.header = some h →
      v < h.minPress → doubted (freshSample s sigFlux v seq p)))

/-- NOZZLE_TEST (R62): its checks in order, the first failure answered with nothing else changed; a request
that passes opens the nozzle's valve for the test, which runs unless the standing action rose to
INHIBIT_FLUX_NOW in the event, a slot of that effective action having come to stand, and ended it with nothing
sprayed (R56, R63). FAULT_CLEAR of a nozzle (R59): RANGE, NEEDS_MAINT, or the fault flag cleared with a cleared
indication of whether it was set. What the request leaves in MGE beside its answer is assumption 3. -/
def Obligations.NozzleRequests : Prop :=
  (∀ (s : State) (rid : Byte) (n d : Nat), Running s →
    let c := Instr.nozzleTest rid n d
    let ranged := n < 8 ∧ 1 ≤ d ∧ d ≤ 2000
    (¬ ranged → exec c s = .next (onlyAnswered s rid 16 (refused .range))) ∧
    (ranged → s.lines.maint = false →
      exec c s = .next (onlyAnswered s rid 16 (refused .needsMaint))) ∧
    (ranged → s.lines.maint = true → s.mdc.mode ≠ .maintenance →
      exec c s = .next (onlyAnswered s rid 16 (refused .wrongMode))) ∧
    (ranged → s.lines.maint = true → s.mdc.mode = .maintenance → s.flx.test ≠ none →
      exec c s = .next (onlyAnswered s rid 16 busy)) ∧
    (ranged → s.lines.maint = true → s.mdc.mode = .maintenance → s.flx.test = none →
      ∀ k : NozzleId, k.val = n →
        ((∃ e, (getNozzle s k).inForce = some e ∧ e.enabled = true ∧ (getNozzle s k).faulted = false ∧
            s.ilu.standing < 3 ∧ ∃ t, exec c s = .next t ∧
            t.mge = answered s rid 16 (done []) ∧ Untouched s t ∧ t.trk = s.trk ∧
            Framed s t [] [] [] ∧ PotKept s t ∧
            ((t.flx.test = some ⟨k, d⟩ ∧ ∃ iv, (getNozzle t k).valve = some iv ∧ iv.owner = .test ∧
                iv.openedAt = s.now ∧ iv.rate = e.flow) ∨
              (Reached s t 3 [] ∧ t.flx.test = none ∧
                (∀ x, (getNozzle t k).valve = some x → x.owner ≠ .test) ∧
                ∃ r, t.flx.lastTest = some r ∧ r.nozzle = k ∧ r.requested = d ∧ r.openFor = 0 ∧
                  r.volume = 0 ∧ r.cause = .inhibit))) ∨
          ((¬ ∃ e, (getNozzle s k).inForce = some e ∧ e.enabled = true ∧
              (getNozzle s k).faulted = false ∧ s.ilu.standing < 3) ∧
            exec c s = .next (onlyAnswered s rid 16 (refused .conditions)))))) ∧
  (∀ (s : State) (rid : Byte) (n : Nat), Running s →
    (8 ≤ n → exec (.faultClearNozzle rid n) s = .next (onlyAnswered s rid 14 (refused .range))) ∧
    (n < 8 → s.lines.maint = false →
      exec (.faultClearNozzle rid n) s = .next (onlyAnswered s rid 14 (refused .needsMaint))) ∧
    (∀ k : NozzleId, k.val = n → s.lines.maint = true → ∃ t,
      exec (.faultClearNozzle rid n) s = .next t ∧ (getNozzle t k).faulted = false ∧
      t.mge = answered s rid 14 (done (putBool (getNozzle s k).faulted)) ∧ Untouched s t ∧
      t.trk = s.trk ∧ Framed s t [] [] [k] ∧ PotKept s t))

/-! ### Loops -/

/-- LOOP_SET ENABLE (R69): its checks in order; an OFF loop becomes ACTIVE with its integral kept and demand
0, an ACTIVE one is unchanged; DONE carries the loop state. LOOP_SET DISABLE (R67, R69, R94): an OFF loop is
unchanged; an ACTIVE one becomes OFF with its integral kept, demand 0 and all its gates stopped; a FAULT one
becomes OFF with no causes and integral 0. What the request leaves in MGE
beside its answer is assumption 3; the codes of the loop states in the answers are assumption 11. -/
def Obligations.LoopSet : Prop :=
  (∀ (s : State) (rid : Byte) (n : Nat), Running s →
    let c := Instr.loopSetEnable rid n
    (6 ≤ n → exec c s = .next (onlyAnswered s rid 11 (refused .range))) ∧
    (n < 6 → s.mdc.mode = .starting → exec c s = .next (onlyAnswered s rid 11 (refused .wrongMode))) ∧
    (n < 6 → s.mdc.mode ≠ .starting → s.tbs.loop.committed = false →
      exec c s = .next (onlyAnswered s rid 11 (refused .notConfigured))) ∧
    (∀ l : LoopId, l.val = n → n < 6 → s.mdc.mode ≠ .starting → s.tbs.loop.committed = true →
      ((getLoop s l).mode = .fault ∨ loopSignalLost s l = true →
        exec c s = .next (onlyAnswered s rid 11 (refused .conditions))) ∧
      ((getLoop s l).mode = .active → loopSignalLost s l = false →
        exec c s = .next (onlyAnswered s rid 11 (done (put8 1)))) ∧
      ((getLoop s l).mode = .off → loopSignalLost s l = false → ∃ t, exec c s = .next t ∧
        (getLoop t l).mode = .active ∧ (getLoop t l).integral = (getLoop s l).integral ∧
        (getLoop t l).demand = 0 ∧ t.mge = answered s rid 11 (done (put8 1)) ∧
        Untouched s t ∧ t.trk = s.trk ∧ Framed s t [] [l] [] ∧ PotKept s t))) ∧
  (∀ (s : State) (rid : Byte) (n : Nat), Running s →
    let c := Instr.loopSetDisable rid n
    (6 ≤ n → exec c s = .next (onlyAnswered s rid 11 (refused .range))) ∧
    (∀ l : LoopId, l.val = n → n < 6 →
      ((getLoop s l).mode = .off → exec c s = .next (onlyAnswered s rid 11 (done (put8 0)))) ∧
      ((getLoop s l).mode ≠ .off → ∃ t, exec c s = .next t ∧ (getLoop t l).mode = .off ∧
        (getLoop t l).demand = 0 ∧ (getLoop t l).window = none ∧
        t.mge = answered s rid 11 (done (put8 0)) ∧ Untouched s t ∧ t.trk = s.trk ∧
        Framed s t [slotStarved l, slotRunaway l] [l] [] ∧ PotKept s t ∧
        ((getLoop s l).mode = .active → (getLoop t l).integral = (getLoop s l).integral ∧
          t.fal.starve[l] = 0 ∧ t.ilu.slots[slotStarved l].live = false ∧
          ∀ (g : GateId) (e : GateEntry), activeGate s g = some e → e.loop = some l →
            gateStopped t g) ∧
        ((getLoop s l).mode = .fault → (getLoop t l).integral = 0 ∧
          (getLoop t l).causes = ⟨false, false, false⟩ ∧
          t.ilu.slots[slotRunaway l].live = false))))

/-- FAULT_CLEAR of a loop (R70): DONE with cleared no for a loop not in FAULT; CONDITIONS while a recorded
cause is not gone; otherwise causes emptied, integral 0, the loop ACTIVE with demand 0, and a pot in FAULT
goes to HEATING for loop P. What the request leaves in MGE beside its answer is assumption 3. -/
def Obligations.FaultClearLoop : Prop :=
  ∀ (s : State) (rid : Byte) (n : Nat), Running s →
    let c := Instr.faultClearLoop rid n
    (7 ≤ n → exec c s = .next (onlyAnswered s rid 14 (refused .range))) ∧
    (∀ l : LoopId, l.val = n →
      let x := getLoop s l
      let sensorGone := if l = loopP then classOf s sigPA = .usable ∨ classOf s sigPB = .usable
        else loopSignalLost s l = false
      let tempGone := ∃ pv m, x.pv = some pv ∧ hardMax s l = some m ∧ pv ≤ m
      let gone := (x.causes.sensorLost = true → sensorGone) ∧ (x.causes.overtemp = true → tempGone)
      (x.mode ≠ .fault → exec c s = .next (onlyAnswered s rid 14 (done (putBool false)))) ∧
      (x.mode = .fault → ¬ gone → exec c s = .next (onlyAnswered s rid 14 (refused .conditions))) ∧
      (x.mode = .fault → gone → ∃ t, exec c s = .next t ∧ (getLoop t l).mode = .active ∧
        (getLoop t l).causes = ⟨false, false, false⟩ ∧ (getLoop t l).integral = 0 ∧
        (getLoop t l).demand = 0 ∧ (getLoop t l).pv = x.pv ∧
        t.ilu.slots[slotRunaway l].live = false ∧
        t.ilu.slots[slotRunaway l].latched = s.ilu.slots[slotRunaway l].latched ∧
        (l = loopP → s.pot.state = .fault → t.pot.state = .heating) ∧
        (l ≠ loopP → PotKept s t) ∧
        t.mge = answered s rid 14 (done (putBool true)) ∧ Untouched s t ∧ t.trk = s.trk ∧
        Framed s t [slotRunaway l] [l] []))

/-- RUNAWAY_WINDOW_EXPIRY (R83): a held signal abandons the window; a rise short of the runaway rise faults
the ACTIVE loop with RUNAWAY, stops its gates and takes the pot to FAULT for loop P; otherwise a new window
starts at once.
SETTLE_TIMER_EXPIRY (R85, R107): a loop whose timer has run its settle time and whose band still holds is
settled, and loop P's takes a pot in HEATING or RECOVERING to READY, with its entry time. That an expiry
command changes nothing before its time is the model's choice (assumption 2). -/
def Obligations.LoopTimersEnd : Prop :=
  (∀ (s : State) (l : LoopId) (w : Machine.RunawayWindow) (e : LoopEntry) (pv : Int), Running s →
      (getLoop s l).mode = .active → (getLoop s l).window = some w → (getLoop s l).pv = some pv →
      activeLoop s l = some e →
      let c := Instr.runawayWindowExpiry l
      let due := e.runawayWindow * 1000 ≤ elapsed s.now w.start
      (¬ due → exec c s = .next s) ∧
      (due → loopHeld s l = true → ∃ t, exec c s = .next t ∧ (getLoop t l).mode = .active ∧
        (getLoop t l).window = none ∧ ProcessOnly s t ∧ Framed s t [] [l] [] ∧ PotKept s t) ∧
      (due → loopHeld s l = false → pv - w.pvStart < e.runawayRise →
        s.ilu.slots[slotRunaway l].live = false → ∃ t, exec c s = .next t ∧
        (getLoop t l).mode = .fault ∧ (getLoop t l).causes = ⟨false, false, true⟩ ∧
        (getLoop t l).demand = 0 ∧ (getLoop t l).integral = (getLoop s l).integral ∧
        (getLoop t l).window = none ∧
        t.ilu.slots[slotRunaway l] = ⟨true, true, pv - w.pvStart⟩ ∧
        (l = loopP → t.pot.state = .fault) ∧ (l ≠ loopP → PotKept s t) ∧
        (∀ (g : GateId) (x : GateEntry), activeGate s g = some x → x.loop = some l → gateStopped t g) ∧
        ProcessOnly s t ∧ Framed s t [slotRunaway l, slotStarved l] [l] []) ∧
      (due → loopHeld s l = false → e.runawayRise ≤ pv - w.pvStart → ∃ t, exec c s = .next t ∧
        (getLoop t l).mode = .active ∧ (getLoop t l).window = some ⟨s.now, pv⟩ ∧ ProcessOnly s t ∧
        Framed s t [] [l] [] ∧ PotKept s t)) ∧
  (∀ (s : State) (l : LoopId) (t0 : Time) (e : LoopEntry), Running s →
      (getLoop s l).settleFrom = some t0 → activeLoop s l = some e →
      (elapsed s.now t0 < e.settle * 1000 → exec (.settleTimerExpiry l) s = .next s) ∧
      (e.settle * 1000 ≤ elapsed s.now t0 → (getLoop s l).inBand = true →
        inBandNow (compose s l) l = true → ∃ t, exec (.settleTimerExpiry l) s = .next t ∧
        (getLoop t l).settled = true ∧ (getLoop t l).settleFrom = none ∧ (getLoop t l).inBand = true ∧
        ProcessOnly s t ∧ Framed s t [] [] [] ∧
        (l = loopP → s.pot.state = .heating ∨ s.pot.state = .recovering → t.pot.state = .ready ∧
          t.pot.readyAt = some s.now ∧ t.pot.idleFrom = some s.now) ∧
        (l ≠ loopP → PotKept s t)))

/-- The control law (R78): from the setpoint, PV, integral and feed-forward of an ACTIVE loop, the six steps
with every division toward minus infinity; integral within 0 to Umax × 256 and demand within 0 to Umax;
the bounds on the proportional term and the integral step. -/
def Obligations.ControlLaw : Prop :=
  ∀ (s : State) (l : LoopId) (e : LoopEntry) (sp pv : Int),
    (getLoop s l).mode = .active → (getLoop s l).setpoint = some sp → (getLoop s l).pv = some pv →
    activeLoop s l = some e →
    let err : Int := max (-500) (min 500 (sp - pv))
    let prop : Int := Int.fdiv (e.kp * err) 16
    let cand : Int := (getLoop s l).integral + e.ki * err
    let u : Int := prop + Int.fdiv cand 256 + (getLoop s l).ff
    let i : Int := if ((e.umax : Int) < u ∧ 0 < err) ∨ (u < 0 ∧ err < 0) then (getLoop s l).integral
      else max 0 (min ((e.umax : Int) * 256) cand)
    let d : Int := max 0 (min (e.umax : Int) (prop + Int.fdiv i 256 + (getLoop s l).ff))
    ((getLoop (applyLaw s l) l).integral : Int) = i ∧ ((getLoop (applyLaw s l) l).demand : Int) = d ∧
    (getLoop (applyLaw s l) l).demand ≤ e.umax ∧
    ((getLoop s l).integral ≤ e.umax * 256 → (getLoop (applyLaw s l) l).integral ≤ e.umax * 256) ∧
    (e.umax = 0 → (getLoop s l).integral = 0 →
      (getLoop (applyLaw s l) l).integral = 0 ∧ (getLoop (applyLaw s l) l).demand = 0) ∧
    Int.fdiv (-120) 16 = -8 ∧
    (e.kp ≤ 255 → -7969 ≤ prop ∧ prop ≤ 7968) ∧
    (e.ki ≤ 255 → -127500 ≤ (e.ki : Int) * err ∧ (e.ki : Int) * err ≤ 127500) ∧
    (∀ k : LoopId, k ≠ l → getLoop (applyLaw s l) k = getLoop s k)

/-- Setpoint, controlling board and feed-forward of every loop after every event (R74 to R76, R84, R85): a zone
takes its own setpoint and feed-forward from the recipe of the oldest board whose zone window is open, else the
idle setpoint and 0; loop P the setback setpoint in SETBACK, else the run setpoint; each at most 5.0 °C below
the hard maximum in force, with none in force unbounded (assumption 17). A loop is in band while ACTIVE with a
PV within its band; its settle timer runs from the event that brings it in band, and stops with settled at one
that takes it out. Loop state, PV, integral and demand are kept. That every event composes them again is
assumption 10. -/
def Obligations.ComposedSetpoints : Prop :=
  ∀ s : State,
    let t := settle s
    LoopsKept s t [] ∧
    (∀ k : ZoneId,
      let x := getLoop t (zoneLoop k)
      let composed (controller : Option Nat) (r : Option Recipe) : Prop :=
        x.controller = controller ∧ x.ff = (r.bind fun y => y.zoneFf[k]).getD 0 ∧
        (∀ e, activeLoop s (zoneLoop k) = some e → x.setpoint = some (zoneSetpoint s e r k)) ∧
        (activeLoop s (zoneLoop k) = none → x.setpoint = none)
      ((∀ b ∈ s.trk.queue, b.windows.zone[k] ≠ .opened) → composed none none) ∧
      ∀ older b newer, s.trk.queue = older ++ b :: newer →
        (∀ y ∈ older, y.windows.zone[k] ≠ .opened) → b.windows.zone[k] = .opened →
        composed (some b.data.tag) (boardRecipe s b.data)) ∧
    (getLoop t loopP).controller = none ∧ (getLoop t loopP).ff = 0 ∧
    (∀ e, activePot s = some e → (getLoop t loopP).setpoint =
      some (clamped s loopP (if s.pot.state = .setback then e.setbackSp else e.runSp))) ∧
    (activePot s = none → (getLoop t loopP).setpoint = none) ∧
    ∀ l : LoopId,
      let x := getLoop s l
      let y := getLoop t l
      (y.inBand = true ↔ x.mode = .active ∧ ∃ pv sp e, x.pv = some pv ∧ y.setpoint = some sp ∧
        activeLoop s l = some e ∧ |pv - sp| ≤ e.band) ∧
      (y.inBand = true → x.inBand = true → y.settleFrom = x.settleFrom ∧ y.settled = x.settled) ∧
      (y.inBand = true → x.inBand = false → y.settleFrom = some s.now) ∧
      (y.inBand = false → y.settleFrom = none ∧ y.settled = false)

/-- A fresh sample of a zone thermocouple (R71, R77, R81, R82, R86, R192): the PV is the sample; OVERTEMP is
judged on it and above the hard maximum an ACTIVE loop faults, its gates stopped (R94), live already or not
(assumption 31); a loop that stays ACTIVE takes the law's integral and demand, and the runaway window starts at
a demand of 900 or more and is abandoned below; then the zone entry of every board physically in the zone takes
the sample, in band when the loop is ACTIVE and the sample within its band of the board's own setpoint. No other
loop, board, slot or unit moves but by the judgements of every event (assumption 10). -/
def Obligations.ZoneSample : Prop :=
  ∀ (s : State) (k : ZoneId) (v : Int) (seq : Nat) (producer : Byte),
    let l := zoneLoop k
    let t := freshSample s (zoneSignal k) v seq producer
    Sampled s t (zoneSignal k) v seq producer ∧ Evaluated s t l v ∧
    ((getLoop s l).mode = .active → (getLoop t l).mode = .fault → t.fal.starve[l] = 0 ∧
      ∀ (n : GateId) (e : GateEntry), activeGate s n = some e → e.loop = some l → gateStopped t n) ∧
    (activeGeometry s = none → t.trk = s.trk) ∧
    (∀ g : Geometry, activeGeometry s = some g → t.trk = { s.trk with queue := t.trk.queue } ∧
      t.trk.queue.length = s.trk.queue.length ∧
      ∀ (i : Nat) (b x : Board), s.trk.queue[i]? = some b → t.trk.queue[i]? = some x →
        let inside := (g.zones[k].start : Int) ≤ leading s b.data ∧
          trailing s b.data ≤ g.zones[k].stop
        let good := (getLoop t l).mode = .active ∧ ∃ e, activeLoop s l = some e ∧
          |v - zoneSetpoint s e (boardRecipe s b.data) k| ≤ e.band
        (¬ inside → x = b) ∧
        (inside → x = { b with data := { b.data with preheat := x.data.preheat } } ∧
          (∀ j : ZoneId, j ≠ k → x.data.preheat[j] = b.data.preheat[j]) ∧
          ∃ z, x.data.preheat[k] = some z ∧
            (b.data.preheat[k] = none → z.pvMin = v ∧ z.pvMax = v ∧ (z.inBand = true ↔ good)) ∧
            ∀ y, b.data.preheat[k] = some y → z.pvMin = min y.pvMin v ∧ z.pvMax = max y.pvMax v ∧
              (z.inBand = true ↔ y.inBand = true ∧ good))) ∧
    Framed s t [slotInputHeld, slotOvertemp l, slotStarved l] [l] [] ∧ PotKept s t

/-! ### Firing -/

/-- ZERO_CROSS_EDGE (R89, R90, R96, R98, R102): an edge of an EMPTY phase entry, or sooner than 4 ms after
the last accepted one, is ignored; an accepted one clears PHASE_LOST and starts a half-cycle whose budget
is the lower of the table's and the ceiling, and the loads granted in it, each gate once, add up to the
used current, which the budget bounds. -/
def Obligations.ZeroCrossEdge : Prop :=
  ∀ (s : State) (p : PhaseId), Running s →
    (activePhase s p = none → exec (.zeroCrossEdge p) s = .next s) ∧
    (∀ t0, (getPhase s p).lastEdge = some t0 → elapsed s.now t0 < 4 →
      exec (.zeroCrossEdge p) s = .next s) ∧
    (∀ e, activePhase s p = some e →
      ((getPhase s p).lastEdge = none ∨ ∃ t0, (getPhase s p).lastEdge = some t0 ∧
        4 ≤ elapsed s.now t0) → ∃ t r, exec (.zeroCrossEdge p) s = .next t ∧
      (getPhase t p).lastEdge = some s.now ∧ (getPhase t p).frequency = some e.frequency ∧
      (getPhase t p).last = some r ∧ r.start = s.now ∧ (getPhase t p).budget = some r.budget ∧
      (∀ x, s.lst.limits = some x → r.budget = min e.budget x.ceiling[p]) ∧
      (s.lst.limits = none → r.budget = 0) ∧
      r.used = loadSum s r.granted ∧ r.used ≤ r.budget ∧ r.granted.Nodup ∧
      (∀ g ∈ r.granted, gateOnPhase s p g = true ∧ ∃ x y, activeGate s g = some x ∧
        x.loop = some y ∧ x.enabled = some true ∧ (getLoop s y).mode = .active) ∧
      t.ilu.slots[slotPhaseLost p].live = false ∧
      (∀ q : PhaseId, q ≠ p → getPhase t q = getPhase s q) ∧
      t.trk = s.trk ∧ t.mge = s.mge ∧ t.tbs = s.tbs ∧ t.lnk = s.lnk ∧ t.mdc = s.mdc ∧
      t.lines = s.lines ∧ t.lst.limits = s.lst.limits ∧ LoopsKept s t [] ∧ PotKept s t ∧
      HoodsKept s t ∧ FaultsKept s t [] ∧
      SlotsKept s t (slotPhaseLost p :: allLoops.map slotStarved))

/-- The stages of a half-cycle start (R90, R93, R95 to R102). The credit of an eligible gate on the phase takes
the demand of its loop, at most 2000; an ineligible one's is 0. The candidates, eligible with 1000 or more, are
offered by class and, within it, cyclically from the class pointer, and granted first fit within the budget. A
granted gate fires and draws 1000; the others of the phase are IDLE, those of other phases untouched. A class
pointer moves past the last gate granted of its class. A loop granted none and denied one counts to STARVED at
50, live with the gate last denied; a grant zeroes it. That the clearing of PHASE_LOST is settled before the
stages is the model's choice (assumption 28); what the judgements after them do is settle (assumption 10). -/
def Obligations.HalfCycleStages : Prop :=
  ∀ (s : State) (p : PhaseId) (e : PhaseEntry), Running s → activePhase s p = some e →
    ((getPhase s p).lastEdge = none ∨ ∃ t0, (getPhase s p).lastEdge = some t0 ∧
      4 ≤ elapsed s.now t0) →
    let u := settle (lowerSlot s (slotPhaseLost p))
    let demand (g : GateId) : Nat := match (activeGate s g).bind fun x => x.loop with
      | some l => (getLoop s l).demand
      | none => 0
    let class_ (g : GateId) : Nat := match activeGate s g with
      | some x => x.priority.getD 0
      | none => 0
    let loop (g : GateId) : Option LoopId := (activeGate s g).bind fun x => x.loop
    let budget := match s.lst.limits with
      | some x => min e.budget x.ceiling[p]
      | none => 0
    ∃ (w : State) (paid : GateId → Nat) (offered : List GateId),
      exec (.zeroCrossEdge p) s = .next (settle w) ∧
      (∀ g, (Eligible u g → paid g = min 2000 (u.fal.gates[g].credit + demand g)) ∧
        (¬ Eligible u g → paid g = 0)) ∧
      (∀ g : GateId, g ∈ offered ↔
        gateOnPhase s p g = true ∧ Eligible u g ∧ 1000 ≤ paid g ∧ class_ g ≤ 3) ∧
      offered.Pairwise (fun g h => class_ g < class_ h ∨ (class_ g = class_ h ∧
        ∀ c : Fin 4, c.val = class_ g →
          behind (getPhase s p).pointers[c] g < behind (getPhase s p).pointers[c] h)) ∧
      (let granted := firstFit (loadOf s) budget offered
      let denied := offered.filter fun g => !granted.contains g
      (∀ g : GateId, gateOnPhase s p g = true → w.fal.gates[g] =
        ⟨if g ∈ granted then paid g - 1000 else paid g, decide (g ∈ granted)⟩) ∧
      (∀ g : GateId, gateOnPhase s p g = false → w.fal.gates[g] = u.fal.gates[g]) ∧
      (getPhase w p).lastEdge = some s.now ∧ (getPhase w p).budget = some budget ∧
      (getPhase w p).last = some ⟨s.now, budget, granted, loadSum s granted, denied.length⟩ ∧
      (∀ c : Fin 4,
        let served := granted.filter fun g => class_ g = c.val
        (served = [] → (getPhase w p).pointers[c] = (getPhase s p).pointers[c]) ∧
        ∀ g, served.getLast? = some g → (getPhase w p).pointers[c] = g + 1) ∧
      (∀ l : LoopId,
        let refused := denied.filter fun g => loop g = some l
        let n := min 255 (u.fal.starve[l] + 1)
        ((∃ g ∈ granted, loop g = some l) → w.fal.starve[l] = 0 ∧
          SlotJudged u w (slotStarved l) False 0) ∧
        ((∀ g ∈ granted, loop g ≠ some l) →
          (refused = [] → w.fal.starve[l] = u.fal.starve[l] ∧
            w.ilu.slots[slotStarved l] = u.ilu.slots[slotStarved l]) ∧
          ∀ g, refused.getLast? = some g → w.fal.starve[l] = n ∧
            (50 ≤ n → SlotJudged u w (slotStarved l) True g.val) ∧
            (n < 50 → w.ilu.slots[slotStarved l] = u.ilu.slots[slotStarved l])))) ∧
      w.lpu = u.lpu ∧ w.trk = u.trk ∧ w.pot = u.pot ∧
      (∀ q : PhaseId, q ≠ p → getPhase w q = getPhase s q) ∧
      (∀ k : SlotId, k ∉ allLoops.map slotStarved → w.ilu.slots[k] = u.ilu.slots[k])

/-- PHASE_LOSS_EXPIRY (R91): after 30 ms at 50 Hz or 25 ms at 60 Hz without an accepted edge PHASE_LOST is
live with detail 0 and no gate of the phase fires; the credits stand, unless PERMIT, which was active, fell in
the event with one of its conditions (R94, R158), which it surely does where PHASE_LOST drops it. That an
expiry command changes nothing before its time is the model's choice (assumption 2). -/
def Obligations.PhaseLoss : Prop :=
  ∀ (s : State) (p : PhaseId) (e : PhaseEntry) (f : Nat) (t0 : Time), Running s →
    activePhase s p = some e → (getPhase s p).frequency = some f → (f = 50 ∨ f = 60) →
    ((getPhase s p).lastEdge = some t0 ∨
      ((getPhase s p).lastEdge = none ∧ (getPhase s p).committedAt = some t0)) →
    s.ilu.slots[slotPhaseLost p].live = false →
    let due := (if f = 50 then 30 else 25) ≤ elapsed s.now t0
    (¬ due → exec (.phaseLossExpiry p) s = .next s) ∧
    (due → ∃ t, exec (.phaseLossExpiry p) s = .next t ∧
      t.ilu.slots[slotPhaseLost p] = ⟨true, true, 0⟩ ∧
      (∀ g : GateId, gateOnPhase s p g = true → t.fal.gates[g].firing = false) ∧
      ((∀ g : GateId, t.fal.gates[g].credit = s.fal.gates[g].credit) ∨
        (PermitFell s t [slotPhaseLost p] ∧ ∀ g : GateId, gateStopped t g)) ∧
      (s.ilu.permit = true → 5 ≤ effectiveAction s (slotPhaseLost p) →
        t.ilu.permit = false ∧ ∀ g : GateId, gateStopped t g) ∧
      ProcessOnly s t ∧ LoopsKept s t [] ∧ PotKept s t ∧ HoodsKept s t ∧ FaultsKept s t [] ∧
      t.fal.starve = s.fal.starve ∧ SlotsKept s t [slotPhaseLost p])

/-! ### The pot -/

/-- POT_COMMAND START (R108): its checks in order; a pot in OFF goes to HEATING with loop P ACTIVE, its
integral kept, and both wave targets 0 (R116). POT_COMMAND STOP (R109): a pot in OFF is unchanged; from any
other state it goes to OFF, loop P with it (integral kept from ACTIVE, 0 from FAULT), the feeder off, from ON or
JOG, with its run accounted (R128), both targets 0, the times gone, and a contact interval running on. What
the request leaves in MGE beside its answer is assumption 3.
A READY pot goes to SETBACK by POT_COMMAND SETBACK in RUN with queue and ring empty, and is refused
CONDITIONS otherwise (R112); SETBACK_DELAY_EXPIRY does so when the delay, not 0, has run from the idle
reference time as well, and else changes nothing (R111). Both targets become 0 (R116). POT_COMMAND RESUME
(R113, R114): CONDITIONS outside SETBACK; from SETBACK the pot goes to RECOVERING, or on to READY with its
entry time, and DONE carries the state reached. That an expiry command changes nothing before its time is the
model's choice (assumption 2). -/
def Obligations.PotCommands : Prop :=
  ((∀ (s : State) (rid : Byte), Running s →
    let c := Instr.potCommandStart rid
    let set := s.tbs.pot.committed = true ∧ s.tbs.loop.committed = true
    let lost := classOf s sigPA = .lost ∧ classOf s sigPB = .lost
    (s.pot.state ≠ .off → exec c s = .next (onlyAnswered s rid 12 (refused .conditions))) ∧
    (s.pot.state = .off → s.mdc.mode = .starting →
      exec c s = .next (onlyAnswered s rid 12 (refused .wrongMode))) ∧
    (s.pot.state = .off → s.mdc.mode ≠ .starting → ¬ set →
      exec c s = .next (onlyAnswered s rid 12 (refused .notConfigured))) ∧
    (s.pot.state = .off → s.mdc.mode ≠ .starting → set → lost →
      exec c s = .next (onlyAnswered s rid 12 (refused .conditions))) ∧
    (s.pot.state = .off → s.mdc.mode ≠ .starting → set → ¬ lost → ∃ t, exec c s = .next t ∧
      t.pot.state = .heating ∧ (getLoop t loopP).mode = .active ∧
      (getLoop t loopP).integral = (getLoop s loopP).integral ∧ (getLoop t loopP).demand = 0 ∧
      t.pot.chip.target = 0 ∧ t.pot.main.target = 0 ∧
      t.pot.chip.command = s.pot.chip.command ∧ t.pot.main.command = s.pot.main.command ∧
      t.mge = answered s rid 12 (done (put8 1)) ∧ Untouched s t ∧ t.trk = s.trk ∧
      Framed s t [] [loopP] [])) ∧
  (∀ (s : State) (rid : Byte), Running s →
    let c := Instr.potCommandStop rid
    (s.pot.state = .off → exec c s = .next (onlyAnswered s rid 12 (done (put8 0)))) ∧
    (s.pot.state ≠ .off → ∃ t, exec c s = .next t ∧ t.pot.state = .off ∧
      (getLoop t loopP).mode = .off ∧ t.pot.readyAt = none ∧ t.pot.idleFrom = none ∧
      t.pot.feeder = .off ∧ t.pot.chip.target = 0 ∧ t.pot.main.target = 0 ∧
      t.pot.contact = s.pot.contact ∧ t.pot.feederEnabled = s.pot.feederEnabled ∧
      ((getLoop s loopP).mode = .active → (getLoop t loopP).integral = (getLoop s loopP).integral ∧
        (getLoop t loopP).demand = 0) ∧
      ((getLoop s loopP).mode = .fault → (getLoop t loopP).integral = 0 ∧
        t.ilu.slots[slotRunaway loopP].live = false) ∧
      (∀ t0 e, FedSince s t0 → activePot s = some e →
        t.pot.grams = min 4294967295 (s.pot.grams + e.feederRate * elapsed s.now t0 / 1000)) ∧
      (s.pot.feeder = .off → t.pot.grams = s.pot.grams) ∧
      t.mge = answered s rid 12 (done (put8 0)) ∧ Untouched s t ∧ t.trk = s.trk ∧
      Framed s t [slotStarved loopP, slotRunaway loopP] [loopP] []))) ∧
  ((∀ (s : State) (rid : Byte), Running s →
    let idle := s.pot.state = .ready ∧ s.mdc.mode = .run ∧ s.trk.queue = [] ∧ s.trk.ring = []
    let run := ∃ e t0, activePot s = some e ∧ s.pot.idleFrom = some t0 ∧ e.setbackDelay ≠ 0 ∧
      e.setbackDelay * 1000 ≤ elapsed s.now t0
    let after (t : State) : Prop := t.pot.state = .setback ∧ t.pot.chip.target = 0 ∧
      t.pot.main.target = 0 ∧ t.pot.chip.command = s.pot.chip.command ∧
      t.pot.main.command = s.pot.main.command ∧ t.pot.feeder = s.pot.feeder ∧ Untouched s t ∧
      t.trk = s.trk ∧ Framed s t [] [] []
    (¬ idle → exec (.potCommandSetback rid) s = .next (onlyAnswered s rid 12 (refused .conditions))) ∧
    (idle → ∃ t, exec (.potCommandSetback rid) s = .next t ∧ after t ∧
      t.mge = answered s rid 12 (done (put8 3))) ∧
    (idle → run → ∃ t, exec .setbackDelayExpiry s = .next t ∧ after t ∧ t.mge = s.mge) ∧
    (¬ idle ∨ ¬ run → exec .setbackDelayExpiry s = .next s)) ∧
  (∀ (s : State) (rid : Byte), Running s →
    (s.pot.state ≠ .setback →
      exec (.potCommandResume rid) s = .next (onlyAnswered s rid 12 (refused .conditions))) ∧
    (s.pot.state = .setback → ∃ t, exec (.potCommandResume rid) s = .next t ∧
      ((t.pot.state = .recovering ∧ t.mge = answered s rid 12 (done (put8 4))) ∨
        (t.pot.state = .ready ∧ t.pot.readyAt = some s.now ∧ t.pot.idleFrom = some s.now ∧
          t.mge = answered s rid 12 (done (put8 2)))) ∧
      Untouched s t ∧ t.trk = s.trk ∧ Framed s t [] [] [])))

/-- PUMP_FAULT_TIMER_EXPIRY (R118): a fault timer that has run 2,000 ms latches WAVE_PUMP_FAULT of that pump
with the feedback's latest value, or 0, as detail; sooner it changes nothing. DWELL_EXPIRY (R121): an interval
that has run the max dwell latches WAVE_DWELL with the board's tag, marks its wave part and puts wave drop in
force, so that the main target is 0; once it has, or sooner, the command changes nothing. That an expiry
command changes nothing before its time is the model's choice (assumption 2).
After every event both targets are 0 in the cases of R116; else chip is at its nominal speed while a board whose
recipe uses the chip wave has its chip window open, and at idle otherwise, and main at the contact speed of the
oldest board whose boost window is open, at nominal with none or with recipe NONE, and at 0 under wave drop
(R115, R116). A pump whose command equals its target while the feedback is lost or beyond the tolerance has a
fault timer running, from this event where none ran; any other has none, and its alarm is not live (R118). Where
no judgement can change the standing action, a running timer and the alarm then stand. That every event judges
both is assumption 10. -/
def Obligations.PumpFaultAndDwell : Prop :=
  (∀ (s : State) (p : Pump) (t0 : Time), Running s → (getPump s p).faultFrom = some t0 →
    s.ilu.slots[slotPumpFault p].live = false →
    (elapsed s.now t0 < 2000 → exec (.pumpFaultTimerExpiry p) s = .next s) ∧
    (2000 ≤ elapsed s.now t0 → ∃ t, exec (.pumpFaultTimerExpiry p) s = .next t ∧
      t.ilu.slots[slotPumpFault p].latched = true ∧
      t.ilu.slots[slotPumpFault p].detail = (latest s (sigPump p)).getD 0 ∧
      ProcessOnly s t ∧ Framed s t [] [] [] ∧ PotKept s t)) ∧
  (∀ (s : State) (c : Contact) (e : PotEntry), Running s → s.pot.contact = some c →
    activePot s = some e →
    (c.waveDrop = true ∨ elapsed s.now c.start < e.maxDwell * 1000 →
      exec .dwellExpiry s = .next s) ∧
    (c.waveDrop = false → e.maxDwell * 1000 ≤ elapsed s.now c.start → ∃ t,
      exec .dwellExpiry s = .next t ∧ t.pot.contact = some { c with waveDrop := true } ∧
      t.pot.main.target = 0 ∧ t.ilu.slots[slotWaveDwell].latched = true ∧
      t.ilu.slots[slotWaveDwell].detail = c.tag ∧
      (∀ b w, findBoard s c.board = some b → b.data.wave = some w → ∃ b', findBoard t c.board = some b' ∧
        b'.data.wave = some { w with dwellExceeded := true } ∧ b'.data.flux = b.data.flux) ∧
      t.trk.queue.length = s.trk.queue.length ∧ t.trk.ring = s.trk.ring ∧ t.trk.pos = s.trk.pos ∧
      t.mge = s.mge ∧ Untouched s t ∧ Framed s t [slotWaveDwell] [] [])) ∧
  (∀ s : State,
    let t := settle s
    let withdrawn := ¬ (s.pot.state = .ready ∨ (s.pot.state = .recovering ∧ s.pot.pumpsStarted = true)) ∨
      s.ilu.slots[slotLevelLow].live = true ∨
      (4 ≤ t.ilu.standing ∧ ∃ g, activeGeometry s = some g ∧ Spanned s g.mainWave)
    let chipWanted := ∃ b ∈ s.trk.queue, b.windows.chip = .opened ∧
      ∃ r, boardRecipe s b.data = some r ∧ r.chipUse = true
    (withdrawn → t.pot.chip.target = 0 ∧ t.pot.main.target = 0) ∧
    (∀ e, activePot s = some e → ¬ withdrawn →
      (chipWanted → t.pot.chip.target = e.chipNominal) ∧
      (¬ chipWanted → t.pot.chip.target = e.chipIdle) ∧
      (∀ c, s.pot.contact = some c → c.waveDrop = true → t.pot.main.target = 0) ∧
      ((∀ c, s.pot.contact = some c → c.waveDrop = false) →
        ((∀ b ∈ s.trk.queue, b.windows.boost ≠ .opened) → t.pot.main.target = e.mainNominal) ∧
        ∀ older b newer, s.trk.queue = older ++ b :: newer →
          (∀ x ∈ older, x.windows.boost ≠ .opened) → b.windows.boost = .opened →
          t.pot.main.target = ((boardRecipe s b.data).map fun r => r.contactSpeed).getD e.mainNominal)) ∧
    ∀ p : Pump,
      let k := slotPumpFault p
      let x := getPump t p
      let fedBack (v : Int) : Prop := ((signal s (sigPump p)).state = .valid ∨
        (signal s (sigPump p)).state = .held) ∧ (signal s (sigPump p)).value = some v
      let fails := s.pot.state ≠ .off ∧ x.command = x.target ∧
        ((∀ v, ¬ fedBack v) ∨ ∃ v e, fedBack v ∧ activePot s = some e ∧
          (e.pumpTol : Int) < |v - x.command|)
      (¬ fails → x.faultFrom = none ∧
        t.ilu.slots[k] = { s.ilu.slots[k] with live := false }) ∧
      (fails → ∃ t0, x.faultFrom = some t0 ∧ (t0 = s.now ∨ (getPump s p).faultFrom = some t0) ∧
        (t.ilu.slots[k].live = true → t.ilu.slots[k] = s.ilu.slots[k])) ∧
      (fails → ActionSettled s → t.ilu.slots[k] = s.ilu.slots[k] ∧
        ∀ t0, (getPump s p).faultFrom = some t0 → x.faultFrom = some t0))

/-- The contact interval (R119, R120), with the entry positions of the queue distinct. A running one ends at the
event that finds its board's trailing location past the main wave, or at the board's completion: the duration is
written, wave drop ends with it and the idle reference time is set. While none runs one begins for the oldest
board that spans the main wave location and has had none, in the same event after an end: its wave part holds
pot state and PV, and WAVE_NOT_READY latches with the tag when the pot is not READY or the PV outside the
recipe's band. That both are judged at one place of an event is assumption 9. -/
def Obligations.ContactInterval : Prop :=
  (∀ (s : State) (g : Geometry), activeGeometry s = some g →
    (s.trk.queue.map fun x => x.data.pIn).Nodup →
    let t := judgeContacts s
    let at_ : Int := g.mainWave
    let past (c : Contact) : Prop := ∃ b, findBoard s c.board = some b ∧ at_ < trailing s b.data
    let due (b : Board) : Prop :=
      at_ ≤ leading s b.data ∧ trailing s b.data ≤ at_ ∧ b.contactBegun = false
    (∀ c, s.pot.contact = some c → ¬ past c → t.pot.contact = some c ∧ t.trk = s.trk ∧
      t.pot.idleFrom = s.pot.idleFrom) ∧
    (∀ c b, s.pot.contact = some c → findBoard s c.board = some b → at_ < trailing s b.data →
      t.pot.idleFrom = some s.now ∧ findBoard t c.board = some { b with data := { b.data with
        wave := b.data.wave.map fun w => { w with duration := some (elapsed s.now c.start) } } }) ∧
    ((∀ c, s.pot.contact = some c → past c) →
      ((∀ b ∈ s.trk.queue, ¬ due b) → t.pot.contact = none) ∧
      ∀ older b newer, s.trk.queue = older ++ b :: newer → (∀ x ∈ older, ¬ due x) → due b →
        let pv := (getLoop s loopP).pv
        let bad := s.pot.state ≠ .ready ∨ ∃ r v, boardRecipe s b.data = some r ∧ pv = some v ∧
          (v < r.bandMin ∨ r.bandMax < v)
        findBoard t b.data.pIn = some { b with
          contactBegun := true
          data := { b.data with wave := some ⟨s.pot.state, pv, pv, none, false⟩ } } ∧
        (bad → t.pot.contact = some ⟨b.data.pIn, b.data.tag, s.now, false, true⟩ ∧
          t.ilu.slots[slotWaveNotReady].latched = true ∧
          t.ilu.slots[slotWaveNotReady].detail = b.data.tag) ∧
        (¬ bad → t.pot.contact = some ⟨b.data.pIn, b.data.tag, s.now, false, false⟩ ∧
          t.ilu.slots[slotWaveNotReady] = s.ilu.slots[slotWaveNotReady])) ∧
    Untouched s t ∧ t.mge = s.mge ∧ Framed s t [slotWaveNotReady] [] []) ∧
  (∀ (s : State) (c : Contact) (b : Board) (out : BoardOutcome) (left : Option Time),
    s.pot.contact = some c → findBoard s c.board = some b → s.trk.completions.length ≤ 16 →
    let t := completeBoard s c.board out left
    t.pot.contact = none ∧ t.pot.idleFrom = some s.now ∧ ∃ x, t.trk.completions.getLast? = some x ∧
      x.data.wave = b.data.wave.map fun w => { w with duration := some (elapsed s.now c.start) })

/-- A fresh sample of a pot thermocouple (R72, R73, R77, R114, R119, R120): with the other usable and within the
disagreement limit the PV is the floor of their mean and POT_TC_DEGRADED not live; beyond it, or before the pot
table's commit, the higher, else the sample alone, and it is live with the id of the one not used: anew at each
sample while it lasts (DEDUCED, assumption 44), and of two equal values either (assumption 8). The PV is
evaluated like a zone's; a fault takes the pot to FAULT with its feeder off. In RECOVERING a PV at the clamped
run setpoint less the margin, or above, starts the pumps. A running contact takes the PV into its wave part (a
part with none takes it as both, assumption 18) and latches WAVE_NOT_READY once, outside the recipe's band. -/
def Obligations.PotSample : Prop :=
  ∀ (s : State) (i o : SignalId) (v : Int) (seq : Nat) (producer : Byte),
    (i = sigPA ∧ o = sigPB) ∨ (i = sigPB ∧ o = sigPA) →
    let t := freshSample s i v seq producer
    let usable := (signal s o).state = .valid ∨ (signal s o).state = .held
    let formed (pv : Int) (src : PvSource) : Prop :=
      Evaluated s t loopP pv ∧ t.lpu.potSource = src ∧
      ((getLoop s loopP).mode = .active → (getLoop t loopP).mode = .fault → t.pot.state = .fault ∧
        t.pot.feeder = .off ∧ t.pot.idleFrom = none ∧ t.pot.pumpsStarted = false) ∧
      ((getLoop t loopP).mode = (getLoop s loopP).mode ∨ (getLoop s loopP).mode ≠ .active →
        t.pot.state = s.pot.state ∧ t.pot.readyAt = s.pot.readyAt ∧ t.pot.idleFrom = s.pot.idleFrom ∧
        t.pot.feeder = s.pot.feeder ∧ ∀ e, activePot s = some e →
        (t.pot.pumpsStarted = true ↔ s.pot.pumpsStarted = true ∨ (s.pot.state = .recovering ∧
          clamped s loopP e.runSp - e.startMargin ≤ pv))) ∧
      (s.pot.contact = none → t.pot.contact = none ∧ t.trk = s.trk) ∧
      (∀ c b, s.pot.contact = some c → findBoard s c.board = some b →
        let outside := ∃ r, boardRecipe s b.data = some r ∧ (pv < r.bandMin ∨ r.bandMax < pv)
        findBoard t c.board = some { b with data := { b.data with wave := b.data.wave.map fun w =>
          { w with
            pvMin := some (min (w.pvMin.getD pv) pv)
            pvMax := some (max (w.pvMax.getD pv) pv) } } } ∧
        (outside → t.pot.contact = some { c with reported := true } ∧
          (c.reported = false → t.ilu.slots[slotWaveNotReady].latched = true ∧
            t.ilu.slots[slotWaveNotReady].detail = c.tag)) ∧
        (¬ outside → t.pot.contact = some c) ∧
        (¬ outside ∨ c.reported = true →
          t.ilu.slots[slotWaveNotReady] = s.ilu.slots[slotWaveNotReady]))
    let degraded (id : Nat) : Prop := t.ilu.slots[slotPotDegraded] = ⟨true, true, id⟩
    let alone : PvSource := if i = sigPA then .pa else .pb
    let other : PvSource := if i = sigPA then .pb else .pa
    Sampled s t i v seq producer ∧
    (¬ usable → formed v alone ∧ degraded o.val) ∧
    (∀ w, usable → (signal s o).value = some w →
      let agree := ∃ e, activePot s = some e ∧ |v - w| ≤ e.disagree
      (agree → formed (Int.fdiv (v + w) 2) .both ∧ SlotJudged s t slotPotDegraded False 0) ∧
      (¬ agree → w < v → formed v alone ∧ degraded o.val) ∧
      (¬ agree → v < w → formed w other ∧ degraded i.val) ∧
      (¬ agree → v = w → (formed v alone ∧ degraded o.val) ∨ (formed v other ∧ degraded i.val))) ∧
    Framed s t [slotInputHeld, slotPotDegraded, slotOvertemp loopP, slotStarved loopP, slotWaveNotReady]
      [loopP] [] ∧
    t.pot.level = s.pot.level ∧ t.pot.feederEnabled = s.pot.feederEnabled ∧
    t.trk = { s.trk with queue := t.trk.queue } ∧ t.trk.queue.length = s.trk.queue.length

/-- A fresh sample of POT.PROBE (R122 to R126, R128, R130). It is discarded, moving nothing of the pot, before
the pot table's commit, while a board spans the main wave or while the main command is not at its target. A
valid one gives the level: reference less probe less the offset of the breakpoints at the main command.
POT_LEVEL_LOW and POT_LEVEL_HIGH are judged on it. At the feed-off level or above a feeder in ON or JOG turns
off with its run accounted and the count 0; a jog holds the count at 0; otherwise the count goes up to 3 at or
below the feed-on level, is 0 above it, and the sample that brings it to 3 turns on an enabled feeder of a
heated pot whose status is good. -/
def Obligations.LevelSample : Prop :=
  ∀ (s : State) (v : Int) (seq : Nat) (producer : Byte),
    let t := freshSample s sigProbe v seq producer
    let covered := ∃ g, activeGeometry s = some g ∧ Spanned s g.mainWave
    let still := s.pot.main.command = s.pot.main.target
    Sampled s t sigProbe v seq producer ∧ t.trk = s.trk ∧
    Framed s t [slotInputHeld, slotLevelLow, slotLevelHigh] [] [] ∧
    t.pot.state = s.pot.state ∧ t.pot.contact = s.pot.contact ∧
    t.pot.chip.command = s.pot.chip.command ∧ t.pot.main.command = s.pot.main.command ∧
    t.pot.feederEnabled = s.pot.feederEnabled ∧
    (activePot s = none ∨ covered ∨ ¬ still → PotKept s t ∧ t.pot.feedOnCount = s.pot.feedOnCount ∧
      SlotsKept s t [slotInputHeld]) ∧
    ∀ (e : PotEntry) (o : Int), activePot s = some e → ¬ covered → still →
      IsOffset e.breakpoints s.pot.main.command o →
      (∀ i j : Fin 4, i < j → e.breakpoints[i].speed < e.breakpoints[j].speed) →
      let level := e.levelRef - v - o
      let n := min 3 (s.pot.feedOnCount + 1)
      let ready := s.pot.feederEnabled = true ∧ (s.pot.state = .heating ∨ s.pot.state = .ready ∨
        s.pot.state = .setback ∨ s.pot.state = .recovering) ∧
        (latest s sigFeed = some 0 ∨ latest s sigFeed = some 1)
      let kept := t.pot.feeder = s.pot.feeder ∧ t.pot.grams = s.pot.grams
      t.pot.level = some level ∧
      SlotJudged s t slotLevelLow (level ≤ e.lowLow) level ∧
      SlotJudged s t slotLevelHigh (e.highHigh ≤ level) level ∧
      (e.feedOff ≤ level → ∀ t0, FedSince s t0 → t.pot.feeder = .off ∧ t.pot.feedOnCount = 0 ∧
        t.pot.grams = min 4294967295 (s.pot.grams + e.feederRate * elapsed s.now t0 / 1000)) ∧
      (level < e.feedOff → ∀ t0 d, s.pot.feeder = .jog t0 d → kept ∧ t.pot.feedOnCount = 0) ∧
      (level < e.feedOff → ∀ t0, s.pot.feeder = .on t0 → kept ∧
        t.pot.feedOnCount = if level ≤ e.feedOn then n else 0) ∧
      (s.pot.feeder = .off → e.feedOn < level → kept ∧ t.pot.feedOnCount = 0) ∧
      (s.pot.feeder = .off → level ≤ e.feedOn → n = 3 → ready →
        t.pot.feeder = .on s.now ∧ t.pot.grams = s.pot.grams ∧ t.pot.feedOnCount = 0) ∧
      (s.pot.feeder = .off → level ≤ e.feedOn → ¬ (n = 3 ∧ ready) → kept ∧ t.pot.feedOnCount = n)

/-- The ends of a feeder run by time (R127, R128, R130): at the max run the feeder is off and disabled,
FEEDER_TIMEOUT latches with the run time, and the run is accounted; at a jog's duration it is off and stays
enabled; sooner nothing changes. That an expiry command changes nothing before its time is the model's choice
(assumption 2). -/
def Obligations.FeederRunEnds : Prop :=
  ∀ (s : State) (t0 : Time) (e : PotEntry), Running s → activePot s = some e →
    let run := elapsed s.now t0
    let paid := min 4294967295 (s.pot.grams + e.feederRate * run / 1000)
    ((s.pot.feeder = .on t0 ∨ ∃ d, s.pot.feeder = .jog t0 d) →
      (run < e.feederMaxRun * 1000 → exec .feederMaxRunExpiry s = .next s) ∧
      (e.feederMaxRun * 1000 ≤ run → ∃ t, exec .feederMaxRunExpiry s = .next t ∧ t.pot.feeder = .off ∧
        t.pot.feederEnabled = false ∧ t.pot.grams = paid ∧
        t.ilu.slots[slotFeederTimeout].latched = true ∧ t.ilu.slots[slotFeederTimeout].detail = run ∧
        ProcessOnly s t ∧ Framed s t [slotFeederTimeout] [] [] ∧ t.pot.state = s.pot.state ∧
        t.pot.contact = s.pot.contact ∧ t.pot.level = s.pot.level)) ∧
    (∀ d, s.pot.feeder = .jog t0 d →
      (run < d → exec .feederJogExpiry s = .next s) ∧
      (d ≤ run → ∃ t, exec .feederJogExpiry s = .next t ∧ t.pot.feeder = .off ∧
        t.pot.feederEnabled = s.pot.feederEnabled ∧ t.pot.grams = paid ∧ ProcessOnly s t ∧
        Framed s t [] [] [] ∧ t.pot.state = s.pot.state ∧
        t.pot.contact = s.pot.contact ∧ t.pot.level = s.pot.level))

/-- FEEDER_JOG and FAULT_CLEAR of the feeder (R127, R130): the checks in order; a jog that passes sets the
feeder to JOG with the feed-on count at 0, a clear enables it and zeroes the feed-on count; nothing else
changes. What the request leaves in MGE beside its answer is assumption 3; the codes of the pot states in it are
those of R189. -/
def Obligations.FeederRequests : Prop :=
  ∀ (s : State) (rid : Byte), Running s →
    (∀ d : Nat,
      let c := Instr.feederJog rid d
      let ranged := 100 ≤ d ∧ d ≤ 120000
      let ready := s.pot.feeder = .off ∧ s.pot.feederEnabled = true ∧
        (s.pot.state = .heating ∨ s.pot.state = .ready ∨ s.pot.state = .setback ∨
          s.pot.state = .recovering) ∧
        (latest s sigFeed = some 0 ∨ latest s sigFeed = some 1) ∧
        ∀ v e, s.pot.level = some v → activePot s = some e → v < e.feedOff
      (¬ ranged → exec c s = .next (onlyAnswered s rid 12 (refused .range))) ∧
      (ranged → s.lines.maint = false →
        exec c s = .next (onlyAnswered s rid 12 (refused .needsMaint))) ∧
      (ranged → s.lines.maint = true → s.mdc.mode ≠ .maintenance →
        exec c s = .next (onlyAnswered s rid 12 (refused .wrongMode))) ∧
      (ranged → s.lines.maint = true → s.mdc.mode = .maintenance → ¬ ready →
        exec c s = .next (onlyAnswered s rid 12 (refused .conditions))) ∧
      (ranged → s.lines.maint = true → s.mdc.mode = .maintenance → ready →
        exec c s = .next { s with
          pot := { s.pot with feeder := .jog s.now d, feedOnCount := 0 }
          mge := answered s rid 12 (done (put8 (potCode s.pot.state))) })) ∧
    (∀ i : Nat, i ≠ 0 →
      exec (.faultClearFeeder rid i) s = .next (onlyAnswered s rid 14 (refused .range))) ∧
    exec (.faultClearFeeder rid 0) s = .next { s with
      pot := { s.pot with feederEnabled := true, feedOnCount := 0 }
      mge := answered s rid 14 (done (putBool (!s.pot.feederEnabled))) }

/-! ### Extraction -/

/-- GRACE_EXPIRY (R137, R138): the grace timer stops, unless a rise restarts it at this very moment, and a
hood then short of air with EXTRACT_LOW not live is being timed toward LOW; sooner nothing changes.
DEBOUNCE_EXPIRY (R138, R139): toward LOW, EXTRACT_LOW becomes live with the airflow, UNKNOWN counted as 0, and
the lockout timer starts; toward OK, it clears and the lockout timer stops; sooner nothing changes. That an
expiry command changes nothing before its time is the model's choice (assumption 2). -/
def Obligations.GraceAndDebounce : Prop :=
  (∀ (s : State) (h : HoodId) (t0 : Time) (e : ExtractionEntry), Running s →
    (getHood s h).graceFrom = some t0 → activeExtraction s h = some e →
    (elapsed s.now t0 < e.grace * 1000 → exec (.graceExpiry h) s = .next s) ∧
    (e.grace * 1000 ≤ elapsed s.now t0 → ∃ t, exec (.graceExpiry h) s = .next t ∧
      ((getHood t h).graceFrom = none ∨ (getHood t h).graceFrom = some s.now) ∧
      (∀ r, (getHood t h).graceFrom = none → (getHood t h).requirement = some r →
        (getHood t h).airflow.getD 0 < r → s.ilu.slots[slotExtractLow h].live = false →
        ∃ d, (getHood t h).debounce = some d ∧ d.towardLow = true) ∧
      SettledFrame s t)) ∧
  (∀ (s : State) (h : HoodId) (d : Debounce) (e : ExtractionEntry), Running s →
    (getHood s h).debounce = some d → activeExtraction s h = some e →
    let c := Instr.debounceExpiry h
    let frame (t : State) : Prop := ProcessOnly s t ∧ LoopsKept s t [] ∧ PotKept s t ∧
      FaultsKept s t [] ∧ SlotsKept s t [slotExtractLow h] ∧ t.exu.lockout = s.exu.lockout ∧
      t.fal.starve = s.fal.starve ∧ GatesKept s t ∧
      ∀ k : HoodId, (getHood t k).airflow = (getHood s k).airflow ∧
        (k ≠ h → (getHood t k).lockoutFrom = (getHood s k).lockoutFrom)
    (elapsed s.now d.start < e.debounce * 1000 → exec c s = .next s) ∧
    (e.debounce * 1000 ≤ elapsed s.now d.start → d.towardLow = true →
      s.ilu.slots[slotExtractLow h].live = false → ∃ t, exec c s = .next t ∧ frame t ∧
      t.ilu.slots[slotExtractLow h] = ⟨true, true, ((getHood s h).airflow.getD 0 : Nat)⟩ ∧
      (getHood t h).lockoutFrom = some s.now) ∧
    (e.debounce * 1000 ≤ elapsed s.now d.start → d.towardLow = false → ∃ t, exec c s = .next t ∧
      frame t ∧ t.ilu.slots[slotExtractLow h].live = false ∧
      t.ilu.slots[slotExtractLow h].latched = s.ilu.slots[slotExtractLow h].latched ∧
      (getHood t h).lockoutFrom = none))

/-- The samples and the loss of a hood's pressures (R133, R138, R142): a duct pressure gives the airflow
floor(Kf × isqrt / 64), at most 65,535, with the root as the largest whole number whose square does not exceed
it, below 0 as 0, and none before the extraction table's commit; a filter pressure judges FILTER_LOADED and
FILTER_BLOCKED. At the lost time the airflow is UNKNOWN, and both filter alarms clear. After every event the
debounce timer of a hood runs toward LOW exactly while EXTRACT_LOW is not live, the air low and no grace
running, and toward OK exactly while it is live and the air not low (R138). After every event hood F is ACTIVE
while fluxing is active (a spray window or a valve open, or the vapour dwell running, R61), else IDLE in RUN and
OFF outside it (R134); hood P is COOL exactly while its PV is below the hot threshold and a pot thermocouple
usable, else HOT (R135); requirement and fan command are those of the table for the level, none and 0 before its
commit, and a rise of either starts the grace timer (R136, R137). A filter counts exactly while the fan is
commanded above 0 and turns or is not supervised: counting starts with running since at this event, and at its
end the time run goes to the accumulator and each full 360,000 ms of it to the hours (R143, R144). That every
event judges these is assumption 10. -/
def Obligations.ExtractionSamples : Prop :=
  (∀ (s : State) (h : HoodId) (v : Int) (seq : Nat) (producer : Byte), v ≤ 65535 →
    let t := freshSample s (sigDuct h) v seq producer
    let u := freshSample s (sigFilter h) v seq producer
    let frame (x : State) (ks : List SlotId) : Prop := x.trk = s.trk ∧ LoopsKept s x [] ∧ PotKept s x ∧
      FaultsKept s x [] ∧ x.exu.lockout = s.exu.lockout ∧ SlotsKept s x (slotInputHeld :: ks) ∧
      ∀ k : HoodId, (getHood x k).lockoutFrom = (getHood s k).lockoutFrom
    Sampled s t (sigDuct h) v seq producer ∧ frame t [] ∧
    (∀ k : HoodId, k ≠ h → (getHood t k).airflow = (getHood s k).airflow) ∧
    (activeExtraction s h = none → (getHood t h).airflow = (getHood s h).airflow) ∧
    (v ≤ 32767 → ∀ e, activeExtraction s h = some e → ∃ r : Nat, (r : Int) * r ≤ max 0 v ∧
      max 0 v < ((r : Int) + 1) * (r + 1) ∧ (getHood t h).airflow = some (min 65535 (e.kf * r / 64))) ∧
    Sampled s u (sigFilter h) v seq producer ∧ frame u [slotFilterLoaded h, slotFilterBlocked h] ∧
    (∀ k : HoodId, (getHood u k).airflow = (getHood s k).airflow) ∧
    (activeExtraction s h = none → u.ilu.slots[slotFilterLoaded h] = s.ilu.slots[slotFilterLoaded h] ∧
      u.ilu.slots[slotFilterBlocked h] = s.ilu.slots[slotFilterBlocked h]) ∧
    (∀ e, activeExtraction s h = some e →
      SlotJudged s u (slotFilterLoaded h) ((e.warnDrop : Int) ≤ v) v ∧
      SlotJudged s u (slotFilterBlocked h) ((e.maxDrop : Int) ≤ v) v)) ∧
  (∀ (s : State) (h : HoodId) (i : SignalId) (t0 : Time) (m : MapEntry) (lost : Nat), Running s →
    i = sigDuct h ∨ i = sigFilter h → (signal s i).state = .held → (signal s i).fresh = some t0 →
    mapOf s i.val = some m → m.lost = some lost → lost ≤ elapsed s.now t0 →
    ∃ t, exec (.lostTimeExpiry i) s = .next t ∧ (signal t i).state = .lost ∧
      (i = sigDuct h → (getHood t h).airflow = none) ∧
      (i = sigFilter h → SlotJudged s t (slotFilterLoaded h) False 0 ∧
        SlotJudged s t (slotFilterBlocked h) False 0)) ∧
  (∀ (s : State) (h : HoodId) (e : ExtractionEntry), activeExtraction s h = some e →
    let x := getHood (settle s) h
    let live := s.ilu.slots[slotExtractLow h].live = true
    ∃ r, x.requirement = some r ∧
      let low := x.airflow.getD 0 < r
      (¬ live → low → x.graceFrom = none → ∃ d, x.debounce = some d ∧ d.towardLow = true) ∧
      (¬ live → ¬ low ∨ x.graceFrom ≠ none → x.debounce = none) ∧
      (live → ¬ low → ∃ d, x.debounce = some d ∧ d.towardLow = false) ∧
      (live → low → x.debounce = none) ∧
      ∀ d, x.debounce = some d → d.start = s.now ∨ (getHood s h).debounce = some d) ∧
  (∀ (s : State) (h : HoodId),
    let t := settle s
    let x := getHood t h
    let y := getHood s h
    let usable (i : SignalId) : Prop := (signal s i).state = .valid ∨ (signal s i).state = .held
    let fluxing := (∃ b ∈ s.trk.queue, b.windows.spray = .opened) ∨
      (∃ n : NozzleId, (getNozzle t n).valve ≠ none) ∨ t.flx.dwellFrom ≠ none
    let cool := (usable sigPA ∨ usable sigPB) ∧ ∃ v e u, (getLoop s loopP).pv = some v ∧
      activeExtraction s hoodP = some e ∧ e.hotThreshold = some u ∧ v < u
    let stopped := (∃ v, usable (sigFan h) ∧ (signal s (sigFan h)).value = some v ∧ v < 50) ∨
      ((∀ v, usable (sigFan h) → (signal s (sigFan h)).value ≠ some v) ∧ mapped s (sigFan h) = true)
    let counts := 0 < x.fan ∧ ¬ stopped
    (h = hoodF → (fluxing → x.level = .full) ∧
      (¬ fluxing → s.mdc.mode = .run → x.level = .reduced) ∧
      (¬ fluxing → s.mdc.mode ≠ .run → x.level = .least)) ∧
    (h = hoodP → (cool → x.level = .least) ∧ (¬ cool → x.level = .full)) ∧
    (activeExtraction s h = none → x.requirement = none ∧ x.fan = 0) ∧
    (∀ e, activeExtraction s h = some e →
      (x.level = .full → x.requirement = some e.reqFull ∧ x.fan = e.fanFull) ∧
      (x.level = .least → x.requirement = some e.reqLeast ∧ x.fan = e.fanLeast) ∧
      (∀ r f, x.level = .reduced → e.reqReduced = some r → e.fanReduced = some f →
        x.requirement = some r ∧ x.fan = f) ∧
      (y.requirement.getD 0 < x.requirement.getD 0 ∨ y.fan < x.fan → x.graceFrom = some s.now)) ∧
    (x.graceFrom = y.graceFrom ∨ x.graceFrom = some s.now) ∧
    (x.runningSince ≠ none ↔ counts) ∧
    (counts → y.runningSince = none → x.runningSince = some s.now) ∧
    (∀ t0, y.runningSince = some t0 →
      let total := y.accumulator + elapsed s.now t0
      let accounted := x.accumulator = total % 360000 ∧
        (total < 360000 → x.hours = y.hours) ∧
        (360000 ≤ total → x.hours = min 4294967295 (y.hours + total / 360000))
      (¬ counts → accounted) ∧
      (counts → (x.runningSince = some t0 ∧ x.accumulator = y.accumulator ∧ x.hours = y.hours) ∨
        (x.runningSince = some s.now ∧ accounted))) ∧
    (y.runningSince = none → y.accumulator < 360000 →
      x.accumulator = y.accumulator ∧ x.hours = y.hours))

/-- LOCKOUT_TIMER_EXPIRY (R139, R140): after the greater of the table's lockout time and the minimum in force
the timer stops and a clear FUME_LOCKOUT flag is set with the hood, slot 54 live, the standing action
INHIBIT_FLUX_NOW or higher, every valve closed and the entry permit 0; a set flag stays as it is. That an
expiry command changes nothing before its time is the model's choice (assumption 2).
LOCKOUT_CLEAR (R141): NEEDS_MAINT; CONDITIONS unless the extraction table is committed, EXTRACT_LOW is
live for neither hood and each hood's airflow, UNKNOWN counted as 0, is at or above its requirement; otherwise
the flag and its hood are cleared and slot 54 is no longer live, its latch kept, and DONE says whether the
flag was set. What the request leaves in MGE beside its answer is assumption 3. -/
def Obligations.FumeLockout : Prop :=
  (∀ (s : State) (h : HoodId) (t0 : Time) (e : ExtractionEntry) (x : Limits), Running s →
    (getHood s h).lockoutFrom = some t0 → activeExtraction s h = some e → s.lst.limits = some x →
    let c := Instr.lockoutTimerExpiry h
    let due := max e.lockout x.lockoutMin * 1000 ≤ elapsed s.now t0
    (¬ due → exec c s = .next s) ∧
    (due → FumeLaw s → s.exu.lockout = none → s.ilu.slots[slotLockout].live = false → ∃ t,
      exec c s = .next t ∧ t.exu.lockout = some h ∧
      t.ilu.slots[slotLockout] = ⟨true, true, h.val⟩ ∧ 3 ≤ t.ilu.standing ∧
      (∀ n : NozzleId, (getNozzle t n).valve = none) ∧ t.ilu.entryPermit = false ∧
      t.ilu.bcnR = true ∧ (getHood t h).lockoutFrom = none ∧
      ProcessOnly s t ∧ LoopsKept s t [] ∧ PotKept s t ∧ FaultsKept s t [] ∧
      SlotsKept s t [slotLockout]) ∧
    (due → ∀ k, s.exu.lockout = some k → ∃ t, exec c s = .next t ∧ t.exu.lockout = some k ∧
      (getHood t h).lockoutFrom = none ∧ ProcessOnly s t ∧ LoopsKept s t [] ∧ PotKept s t ∧
      FaultsKept s t [] ∧ SlotsKept s t [])) ∧
  (∀ (s : State) (rid : Byte), Running s →
    let fed (h : HoodId) : Prop := s.ilu.slots[slotExtractLow h].live = false ∧
      ∀ r, (getHood s h).requirement = some r → r ≤ (getHood s h).airflow.getD 0
    let good := s.tbs.extraction.committed = true ∧ fed hoodF ∧ fed hoodP
    (s.lines.maint = false →
      exec (.lockoutClear rid) s = .next (onlyAnswered s rid 15 (refused .needsMaint))) ∧
    (s.lines.maint = true → ¬ good →
      exec (.lockoutClear rid) s = .next (onlyAnswered s rid 15 (refused .conditions))) ∧
    (s.lines.maint = true → good → ∃ t, exec (.lockoutClear rid) s = .next t ∧
      t.exu.lockout = none ∧ t.ilu.slots[slotLockout].live = false ∧
      t.ilu.slots[slotLockout].latched = s.ilu.slots[slotLockout].latched ∧
      t.mge = answered s rid 15 (done (putBool s.exu.lockout.isSome)) ∧ Untouched s t ∧
      t.trk = s.trk ∧ LoopsKept s t [] ∧ PotKept s t ∧ FaultsKept s t [] ∧
      SlotsKept s t [slotLockout] ∧
      ∀ h : HoodId, (getHood t h).airflow = (getHood s h).airflow))

/-- A filter-hour save handed over (R145, R196): dropped under the conservative limits; with an operation in
flight it waits and replaces the hood's waiting save; else a SAVE of the block with that hood's hours starts.
FILTER_TENTH_HOUR (R144, R145): each 360,000 ms that counting has brought adds a tenth of an hour, the rest
stays in the accumulator; a tenth that makes a whole hour hands the count over; sooner nothing changes.
FAULT_CLEAR of a filter (R147): RANGE, NEEDS_MAINT, or hours and accumulator 0, a filter that counts running on
from now, the count 0 handed over, and DONE. That an expiry command changes nothing before its time is the
model's choice (assumption 2); what the request leaves in MGE beside its answer is assumption 3. -/
def Obligations.FilterHours : Prop :=
  ∀ (s : State) (h : HoodId),
    let dropped := s.lst.limits ≠ none ∧ s.lst.block = none
    let savedIn (b : Block) (n : Nat) : StoreOp := .save s.now { b with hours := b.hours.set h n }
    let handed (t : State) (n : Nat) : Prop :=
      (dropped → t.lst.op = s.lst.op ∧ t.lst.waiting = s.lst.waiting) ∧
      (¬ dropped → ∀ o, s.lst.op = some o → t.lst.op = some o ∧ t.lst.waiting[h] = some n) ∧
      (∀ b, s.lst.op = none → s.lst.block = some b →
        t.lst.op = some (savedIn b n) ∧ t.lst.waiting[h] = none)
    (∀ n : Nat,
      (dropped → handSave s h n = s) ∧
      (¬ dropped → s.lst.op ≠ none → handSave s h n =
        { s with lst := { s.lst with waiting := s.lst.waiting.set h (some n) } }) ∧
      (∀ b, s.lst.op = none → s.lst.block = some b → handSave s h n =
        { s with lst := { s.lst with
          op := some (savedIn b n), waiting := s.lst.waiting.set h none } })) ∧
    (Running s → ∀ t0, (getHood s h).runningSince = some t0 →
      let total := (getHood s h).accumulator + elapsed s.now t0
      let n := (getHood s h).hours + 1
      (total < 360000 → exec (.filterTenthHour h) s = .next s) ∧
      (360000 ≤ total → ∃ t, exec (.filterTenthHour h) s = .next t ∧
        (getHood t h).hours = min 4294967295 ((getHood s h).hours + total / 360000) ∧
        (getHood t h).accumulator = total % 360000 ∧
        (total < 720000 → n % 10 = 0 → n ≤ 4294967295 → handed t n) ∧
        (total < 720000 → n % 10 ≠ 0 → t.lst.waiting[h] = s.lst.waiting[h]) ∧
        SettledFrame s t)) ∧
    (Running s → ∀ (rid : Byte) (n : Nat), 2 ≤ n →
      exec (.faultClearFilter rid n) s = .next (onlyAnswered s rid 14 (refused .range))) ∧
    (Running s → ∀ rid : Byte, s.lines.maint = false →
      exec (.faultClearFilter rid h.val) s = .next (onlyAnswered s rid 14 (refused .needsMaint))) ∧
    (Running s → ∀ rid : Byte, s.lines.maint = true → ∃ t,
      exec (.faultClearFilter rid h.val) s = .next t ∧
      (getHood t h).hours = 0 ∧ (getHood t h).accumulator = 0 ∧
      (∀ t0, (getHood t h).runningSince = some t0 → t0 = s.now) ∧ handed t 0 ∧
      t.mge = answered s rid 14 (done []) ∧ Untouched s t ∧ t.trk = s.trk ∧ Framed s t [] [] [] ∧
      PotKept s t)

/-! ### Alarms -/

/-- ESTOP_EDGE (R152, R158, R94): slot 0 follows the line, latching as it becomes live, with detail 0; an
active line brings the standing action to 5 (5 or more where the action table held a class above 5, which
`ClassLaw` rules out), and drops PERMIT at the edge and with it every gate; a level the line has already is no
edge (assumption 21). -/
def Obligations.EstopEdge : Prop :=
  ∀ (s : State) (level : Bool), Running s →
    (s.lines.estop = level → exec (.estopEdge level) s = .next s) ∧
    (s.lines.estop ≠ level → s.ilu.slots[slotEstop].live = s.lines.estop → ∃ t,
      exec (.estopEdge level) s = .next t ∧ t.lines = { s.lines with estop := level } ∧
      t.ilu.slots[slotEstop].live = level ∧
      (level = true → t.ilu.slots[slotEstop] = ⟨true, true, 0⟩ ∧ t.ilu.permit = false ∧
        5 ≤ t.ilu.standing ∧ (ClassLaw s → t.ilu.standing = 5) ∧ t.ilu.convRun = false ∧ t.ilu.bcnR = true ∧ t.ilu.entryPermit = false ∧
        (s.ilu.permit = true → ∀ g : GateId, gateStopped t g)) ∧
      (level = false → t.ilu.slots[slotEstop].latched = s.ilu.slots[slotEstop].latched ∧
        (s.ilu.slots[slotEstop].latched = true → t.ilu.permit = false)) ∧
      t.trk = s.trk ∧ t.mge = s.mge ∧ t.tbs = s.tbs ∧ t.lnk = s.lnk ∧ t.mdc = s.mdc ∧
      t.lst.limits = s.lst.limits ∧ Framed s t [slotEstop] [] [] ∧ PotKept s t)

/-- ALARM_READ with clear (R156): the latched flag of every slot that is not live is cleared, live slots and
details stand, and the answer carries every slot as it stood, the standing action and notice after the clear,
and how many it cleared. Slots the model judges after every event may rise again in it. What the request
leaves in MGE beside its answer is assumption 3. The layout of the fields is the model's choice (assumption
11). -/
def Obligations.AlarmReadClears : Prop :=
  ∀ (s : State) (rid : Byte), Running s → ∃ t, exec (.alarmRead rid true) s = .next t ∧
    (∀ k : SlotId, ¬ Judged k → t.ilu.slots[k].live = s.ilu.slots[k].live ∧
      t.ilu.slots[k].detail = s.ilu.slots[k].detail ∧
      t.ilu.slots[k].latched = (s.ilu.slots[k].latched && s.ilu.slots[k].live)) ∧
    t.mge = answered s rid 8 (done (putAll putSlot s.ilu.slots ++ put8 t.ilu.standing ++
      putBool t.ilu.notice ++ put8 (s.ilu.slots.toList.countP fun x => x.latched && !x.live))) ∧
    Untouched s t ∧ t.trk = s.trk ∧ LoopsKept s t [] ∧ PotKept s t ∧ HoodsKept s t ∧ FaultsKept s t []

/-- The standing action (R153, R154, R165). A slot's effective action is the greater of its class and its floor;
it stands while live, or with HOLD_UNTIL_READ while latched; before the action table's commit class 0 and
HOLD_ON_LIVE. After every event the standing action is at or above the effective action of each slot that stands
and that the event does not judge, and is 0 or some slot's that stood in it. Where no judgement can change it
(`ActionSettled`) it is the greatest of those that stand, and CONVEYOR_SPEED is judged against it at a sampling
point and at each change of it, with the oldest board whose recipe's range excludes the speed. Where slot 60
alone can change it and has HOLD_UNTIL_READ, its own raise is passed on to it too: after a sampling point it is
live exactly while the mode is RUN, the standing action below STOP_CONVEYOR and a board's range excludes the
speed, and latched by that raise. How often an event passes a change on is the model's choice (assumption 10); a
SPEED_SAMPLE at another moment is assumption 2, and the next sampling point past the wrap of machine time is
assumption 41 (DESIGN CHOICE). -/
def Obligations.StandingAction : Prop :=
  (∀ (s : State) (k : SlotId),
    effectiveAction s k = max ((activeAction s k).elim 0 fun e => e.cls)
      (if k.val = 0 ∨ k.val = 22 then 5 else if k.val = 1 ∨ k.val = 54 then 3
        else if k.val = 2 ∨ k.val = 56 ∨ (16 ≤ k.val ∧ k.val ≤ 21) then 1 else 0) ∧
    (k.val = 0 → stands s k = s.ilu.slots[k].latched) ∧
    (k.val = 54 → stands s k = s.ilu.slots[k].live) ∧
    (k.val ≠ 0 → k.val ≠ 54 →
      (activeAction s k = none → stands s k = s.ilu.slots[k].live) ∧
      ∀ e, activeAction s k = some e → stands s k = match e.hold with
        | .onLive => s.ilu.slots[k].live
        | .untilRead => s.ilu.slots[k].latched)) ∧
  (∀ s : State,
    let greatest (t : State) : Prop :=
      (∀ k : SlotId, stands t k = true → effectiveAction s k ≤ t.ilu.standing) ∧
      (t.ilu.standing = 0 ∨ ∃ k, stands t k = true ∧ effectiveAction s k = t.ilu.standing)
    let outside (b : Board) : Prop := ∃ r, boardRecipe s b.data = some r ∧
      (s.trk.speed < r.speedMin ∨ r.speedMax < s.trk.speed)
    let judged (t : State) : Prop :=
      ((∀ b ∈ s.trk.queue, ¬ outside b) → SlotJudged s t slotSpeed False 0) ∧
      ∀ older b newer, s.trk.queue = older ++ b :: newer → (∀ x ∈ older, ¬ outside x) → outside b →
        SlotJudged s t slotSpeed (s.mdc.mode = .run ∧ t.ilu.standing < 4) b.data.tag
    (∀ t : State, t = settle s ∨ t = settleSpeed s →
      (∀ k : SlotId, ¬ Judged k → stands s k = true → effectiveAction s k ≤ t.ilu.standing) ∧
      (t.ilu.standing = 0 ∨ ∃ k : SlotId, effectiveAction s k = t.ilu.standing ∧
        (stands s k = true ∨ (Judged k ∧ t.ilu.slots[k].latched = true))) ∧
      (ActionSettled s → greatest t)) ∧
    (ActionSettled s → judged (settleSpeed s) ∧
      ((settle s).ilu.standing ≠ s.ilu.standing → judged (settle s)) ∧
      ((settle s).ilu.standing = s.ilu.standing →
        (settle s).ilu.slots[slotSpeed] = s.ilu.slots[slotSpeed])) ∧
    (∀ (m : Nat) (e : ActionEntry), activeAction s slotSpeed = some e → e.hold = .untilRead →
      (m = 0 ∨ ∃ k : SlotId, ¬ Judged k ∧ stands s k = true ∧ effectiveAction s k = m) →
      (∀ k : SlotId, Judged k → k ≠ slotSpeed → effectiveAction s k ≤ m) →
      let t := settleSpeed s
      greatest t ∧
      (t.ilu.slots[slotSpeed].live = true ↔
        s.mdc.mode = .run ∧ t.ilu.standing < 4 ∧ ∃ b ∈ s.trk.queue, outside b) ∧
      ∀ older b newer, s.trk.queue = older ++ b :: newer → (∀ x ∈ older, ¬ outside x) → outside b →
        s.mdc.mode = .run → (∀ k : SlotId, stands s k = true → effectiveAction s k < 4) →
        s.ilu.slots[slotSpeed] = ⟨false, false, 0⟩ →
        t.ilu.slots[slotSpeed] = ⟨decide (e.cls < 4), true, b.data.tag⟩)) ∧
  (∀ s : State, Running s → s.now = s.trk.nextSample → exec .speedSample s = .next (settleSpeed
    { s with trk := { s.trk with
      speed := (s.trk.pos - s.trk.sampledPos).toInt * 24
      sampledPos := s.trk.pos
      nextSample := s.trk.nextSample + 250 } }))

/-- The outputs and the admission after every event's judgements: PERMIT (R158), conveyor run (R159), notice
and the beacons (R155, R157), the next board (R160), and the entry permit, 1 exactly when the ten conditions
hold, with the reason of the first that fails (R161 to R164). That bit n of a mask names nozzle n is the model's
choice (assumption 54). -/
def Obligations.OutputsAndAdmission : Prop :=
  ∀ s : State,
    let t := settle s
    let first3 := t.mdc.mode = .run ∧ t.mdc.notReady = false ∧ t.ilu.standing = 0
    (t.ilu.permit = true ↔ t.mdc.mode ≠ .starting ∧ t.lines.estop = false ∧ t.ilu.standing < 5) ∧
    (t.ilu.convRun = true ↔ t.mdc.mode = .run ∧ t.ilu.standing < 4) ∧
    (t.ilu.notice = true ↔ ∃ k : SlotId, t.ilu.slots[k].latched = true ∧ masked t k = false) ∧
    t.ilu.bcnA = t.ilu.notice ∧ (t.ilu.bcnR = true ↔ 4 ≤ t.ilu.standing ∨ t.exu.lockout ≠ none) ∧
    (∀ a rest, t.trk.ring = a :: rest → t.ilu.nextBoard = some ⟨a.tag, a.recipe, a.skipFlux⟩) ∧
    (t.trk.ring = [] → ∀ r : RecipeId, t.ilu.nextBoard = some ⟨0, r, false⟩ ↔
      t.tbs.recipe.committed = true ∧
        t.tbs.recipe.active.header = some ⟨some r.val, false⟩) ∧
    (t.ilu.entryPermit = true ↔ t.ilu.reason = .none) ∧
    (t.mdc.mode ≠ .run → t.ilu.reason = .wrongMode) ∧
    (t.mdc.mode = .run → t.mdc.notReady = true → t.ilu.reason = .notReady) ∧
    (t.mdc.mode = .run → t.mdc.notReady = false → t.ilu.standing ≠ 0 → t.ilu.reason = .action) ∧
    (first3 → t.ilu.nextBoard = none → t.ilu.reason = .noAnnouncement) ∧
    (∀ b r, t.ilu.nextBoard = some b → activeRecipe t b.recipe = some r → first3 →
      let room := t.trk.queue.length < 24
      let pot := t.pot.state = .ready ∧ t.pot.main.command = t.pot.main.target
      let zones := ∀ k : ZoneId,
        (r.zoneSp[k] ≠ none → (getLoop t (zoneLoop k)).mode = .active) ∧
        ((getLoop t (zoneLoop k)).mode = .active → (getLoop t (zoneLoop k)).inBand = true)
      let speed := r.speedMin ≤ t.trk.speed ∧ t.trk.speed ≤ r.speedMax
      let flux := r.fluxMap = none ∨ b.skipFlux = true ∨
        ((∃ m, r.fluxMap.bind (activeMap t) = some m ∧ ∀ n : NozzleId,
          (∃ x ∈ m.masks, x.getLsbD n.val = true) → (getNozzle t n).faulted = false ∧
            ∃ e, (getNozzle t n).inForce = some e ∧ e.enabled = true) ∧
          (signal t sigFlux).state = .valid ∧ ∃ v h, (signal t sigFlux).value = some v ∧
            t.tbs.nozzle.active.header = some h ∧ (h.minPress : Int) ≤ v)
      let gap := t.trk.queue = [] ∨ ∃ x n, t.trk.queue.getLast? = some x ∧ x.data.len = some n ∧
        (gapOf t r : Int) ≤ trailing t x.data
      (¬ room → t.ilu.reason = .queueFull) ∧
      (room → ¬ pot → t.ilu.reason = .pot) ∧
      (room → pot → ¬ zones → t.ilu.reason = .zone) ∧
      (room → pot → zones → ¬ speed → t.ilu.reason = .speed) ∧
      (room → pot → zones → speed → ¬ flux → t.ilu.reason = .flux) ∧
      (room → pot → zones → speed → flux → ¬ gap → t.ilu.reason = .gap) ∧
      (room → pot → zones → speed → flux → gap → t.ilu.entryPermit = true))

/-! ### The link -/

/-- The ages of a signal (R171, R173): a VALID one at its hold time becomes HELD, keeping its value, and
INPUT_HELD is live; a HELD one at its lost time, or an ABSENT mapped one at its lost time since the slot map
took effect, becomes LOST, and the loop of a zone thermocouple, if ACTIVE, faults with SENSOR_LOST, its PV
kept (R71, R79). A pot thermocouple LOST leaves loop P the PV of the other while that is usable,
POT_TC_DEGRADED live with the id of the lost one and OVERTEMP judged on it; none while the other is awaited;
and with both lost the PV is kept, POT_TC_DEGRADED clears, SENSOR_LOST of P is live with detail 6 unless the
loop is OFF, and an ACTIVE loop faults, the pot with it: FAULT, its feeder off, no idle reference time (R68,
R72, R73, R79, R80, R110). The feeder turns off, still enabled and its run accounted, when its status is LOST
(R126, R128). That POT_TC_DEGRADED, live already with the other id, takes the id of the one now lost is DEDUCED
(assumption 44), and so is the fault of an ACTIVE loop P by OVERTEMP where that alarm was live already
(assumption 31). Sooner nothing changes. That an expiry command changes nothing before its time is the model's
choice (assumption 2). -/
def Obligations.SignalAges : Prop :=
  ∀ (s : State) (i : SignalId) (m : MapEntry) (t0 : Time) (hold lost : Nat), Running s →
    mapOf s i.val = some m → m.hold = some hold → m.lost = some lost →
    let put (x : SignalState) : Lnk :=
      { s.lnk with signals := s.lnk.signals.set i { signal s i with state := x } }
    let frame (t : State) : Prop := t.tbs = s.tbs ∧ t.mge = s.mge ∧ t.mdc = s.mdc ∧
      t.lines = s.lines ∧ t.now = s.now ∧ t.lst.limits = s.lst.limits ∧ t.trk.pos = s.trk.pos ∧
      t.trk.ring = s.trk.ring ∧ t.trk.queue.length = s.trk.queue.length
    let others (t : State) : Prop := FaultsKept s t [] ∧ t.exu.lockout = s.exu.lockout ∧
      (∀ l : LoopId, l.val ≠ i.val → (l = loopP → i.val ≠ 7) → LoopKept s t l) ∧
      SlotsKept s t ([slotInputHeld, slotPotDegraded, slotWaveNotReady, slotOvertemp loopP,
        slotFilterLoaded hoodF, slotFilterLoaded hoodP, slotFilterBlocked hoodF,
        slotFilterBlocked hoodP] ++ allLoops.map slotStarved)
    let lostOne (j : SignalId) : Prop := (signal s j).state = .lost ∨
      ((signal s j).state = .absent ∧ mapped s j = false)
    let fails (t : State) (l : LoopId) : Prop :=
      (getLoop t l).pv = (getLoop s l).pv ∧
      ((getLoop s l).mode = .active → (getLoop t l).mode = .fault ∧ (getLoop t l).demand = 0 ∧
        (getLoop t l).causes = ⟨true, false, false⟩) ∧
      ((getLoop s l).mode = .fault → (getLoop t l).mode = .fault ∧
        (getLoop t l).causes = { (getLoop s l).causes with sensorLost := true }) ∧
      ((getLoop s l).mode = .off → (getLoop t l).mode = .off)
    let unfed (t : State) : Prop := t.pot.feeder = .off ∧ t.pot.feederEnabled = s.pot.feederEnabled ∧
      ∀ e t1, activePot s = some e → FedSince s t1 →
        t.pot.grams = min 4294967295 (s.pot.grams + e.feederRate * elapsed s.now t1 / 1000)
    let potLost (t : State) (o : SignalId) : Prop :=
      (lostOne o → fails t loopP ∧ SlotJudged s t slotPotDegraded False 0 ∧
        SlotJudged s t (slotSensorLost loopP) ((getLoop s loopP).mode ≠ .off) 6 ∧
        ((getLoop s loopP).mode = .active → t.pot.state = .fault ∧ unfed t ∧ t.pot.idleFrom = none) ∧
        ((getLoop s loopP).mode ≠ .active → PotKept s t)) ∧
      (∀ v, (signal s o).state = .valid ∨ (signal s o).state = .held → (signal s o).value = some v →
        (getLoop t loopP).pv = some v ∧ t.ilu.slots[slotPotDegraded] = ⟨true, true, i.val⟩ ∧
        (∀ x, hardMax s loopP = some x → SlotJudged s t (slotOvertemp loopP) (x < v) v ∧
          (x < v → (getLoop s loopP).mode = .active →
            (getLoop t loopP).mode = .fault ∧ t.pot.state = .fault)) ∧
        ((∀ x, hardMax s loopP = some x → v ≤ x) → (getLoop t loopP).mode = (getLoop s loopP).mode ∧
          (getLoop t loopP).causes = (getLoop s loopP).causes ∧ t.pot.state = s.pot.state ∧
          t.pot.feeder = s.pot.feeder)) ∧
      ((signal s o).state = .absent → mapped s o = true → (getLoop t loopP).pv = none ∧
        SlotJudged s t slotPotDegraded False 0 ∧ (getLoop t loopP).mode = (getLoop s loopP).mode)
    let faults (t : State) : Prop := (∀ l : LoopId, l.val = i.val → l.val < 6 → fails t l) ∧
      (i = sigPA → potLost t sigPB) ∧ (i = sigPB → potLost t sigPA) ∧ (i = sigFeed → unfed t) ∧
      (i ≠ sigPA → i ≠ sigPB → i ≠ sigFeed → PotKept s t)
    ((signal s i).state = .valid → (signal s i).fresh = some t0 →
      (elapsed s.now t0 < hold → exec (.holdTimeExpiry i) s = .next s) ∧
      (hold ≤ elapsed s.now t0 → ∃ t, exec (.holdTimeExpiry i) s = .next t ∧ t.lnk = put .held ∧
        t.ilu.slots[slotInputHeld].live = true ∧
        (s.ilu.slots[slotInputHeld].live = false → t.ilu.slots[slotInputHeld] = ⟨true, true, i.val⟩) ∧
        frame t ∧ t.trk = s.trk ∧ Framed s t [slotInputHeld] [] [] ∧ PotKept s t)) ∧
    ((signal s i).state = .held → (signal s i).fresh = some t0 →
      (elapsed s.now t0 < lost → exec (.lostTimeExpiry i) s = .next s) ∧
      (lost ≤ elapsed s.now t0 → ∃ t, exec (.lostTimeExpiry i) s = .next t ∧ t.lnk = put .lost ∧
        frame t ∧ others t ∧ faults t)) ∧
    ((signal s i).state = .absent → s.lnk.mapSince = some t0 →
      (elapsed s.now t0 < lost → exec (.absentTimeout i) s = .next s) ∧
      (lost ≤ elapsed s.now t0 → ∃ t, exec (.absentTimeout i) s = .next t ∧ t.lnk = put .lost ∧
        frame t ∧ others t ∧ faults t))

/-- LINK_TIMEOUT (R175): when the machine time since the last good frame, or the reset, reaches the timeout of
the slot map in force, or 500 ms without one, LINK_LOST is live with the bad frames since then as detail;
sooner, or with LINK_LOST live already, nothing changes. That an expiry command changes nothing before its
time is the model's choice (assumption 2).
A bad frame (R168): one whose length its header does not give, whose slot count is above 64, whose area
state is none of the four, or whose CRC does not match is counted, twice, the second count saturating, is
forwarded byte for byte, and changes nothing else. -/
def Obligations.LinkTimeoutAndBadFrame : Prop :=
  (∀ s : State, Running s →
    let limit := s.tbs.slotMap.active.header.getD 500
    (elapsed s.now s.lnk.linkFrom < limit ∨ s.ilu.slots[slotLinkLost].live = true →
      exec .linkTimeout s = .next s) ∧
    (limit ≤ elapsed s.now s.lnk.linkFrom → s.ilu.slots[slotLinkLost].live = false → ∃ t,
      exec .linkTimeout s = .next t ∧ t.ilu.slots[slotLinkLost] = ⟨true, true, s.lnk.badSince⟩ ∧
      3 ≤ t.ilu.standing ∧ t.ilu.entryPermit = false ∧
      ProcessOnly s t ∧ Framed s t [slotLinkLost] [] [] ∧ PotKept s t)) ∧
  (∀ (s : State) (l : List Byte), Running s →
    (l.length < 7 ∨ 64 < (l.getD 2 0).toNat ∨ 3 < (l.getD 3 0).toNat ∨
      l.length ≠ 7 + 4 * (l.getD 2 0).toNat + (if (l.getD 3 0).toNat = 0 then 0 else 35) ∨
      crc16 (l.take (l.length - 2)) ≠
        (l.getD (l.length - 2) 0).setWidth 16 <<< 8 ||| (l.getD (l.length - 1) 0).setWidth 16) →
    exec (.frameArrival l) s = .next { s with lnk := { s.lnk with
      bad := s.lnk.bad + 1
      badSince := min 65535 (s.lnk.badSince + 1)
      down := l } })

/-- A good frame without a management area (R169 to R171, R174, R175): the link timer restarts, LINK_LOST clears,
the frame is counted and its number kept, and it is forwarded with a CRC that matches. A slot of a mapped
consumed signal: a fresh sample in range makes it VALID with its value, sequence and producer; OPEN, RANGE or a
value out of range makes a temperature LOST at once, the value kept; a repeat and any other quality change the
last quality alone. A signal unmapped or beyond the slot count is unchanged, and a mapped slot beyond it is
counted, once a frame. Each mapped produced signal is written with its value, the next sequence, quality 0 and
the strap address, 0 for none (R197); every other slot is forwarded as received; a record not written is kept,
but for ENTRY.PERMIT, whose last value becomes 0. Both pumps step toward their targets by the time since the
last frame (R117). Each fresh sample is `freshSample` on the state that stood, taken in the order of the signal
ids, and the produced values are those that result: the model's choice (assumption 19), as the record of the
frame forwarded is (assumption 30).
The value of each produced signal is the one its owner holds: the commands of pumps, feeder and fans, conveyor
run, entry permit, the conveyor speed command or 0 before the pot table's commit (R174), and STATUS.WORD and
ALARM.SUMMARY packed as R189 lays them down. -/
def Obligations.GoodFrame : Prop :=
  (∀ s : State,
    let bit (b : Bool) : Nat := if b then 1 else 0
    let v := producedValue s
    let word := v 7
    v 0 = s.pot.chip.command ∧ v 1 = s.pot.main.command ∧
    (s.pot.feeder = .off → v 2 = 0) ∧ (s.pot.feeder ≠ .off → v 2 = 1) ∧
    v 3 = (getHood s hoodF).fan ∧ v 4 = (getHood s hoodP).fan ∧
    v 5 = bit s.ilu.convRun ∧ v 6 = bit s.ilu.entryPermit ∧
    word % 4 = (match s.mdc.mode with
      | .starting => 0
      | .config => 1
      | .run => 2
      | .maintenance => 3) ∧
    word / 4 % 8 = (match s.pot.state with
      | .off => 0
      | .heating => 1
      | .ready => 2
      | .setback => 3
      | .recovering => 4
      | .fault => 5) ∧
    word / 32 % 2 = bit s.ilu.notice ∧ word / 64 % 2 = bit s.ilu.entryPermit ∧
    word / 128 % 2 = bit s.mdc.notReady ∧ word / 256 % 2 = bit s.exu.lockout.isSome ∧
    word / 512 = s.ilu.standing ∧
    v 8 = s.ilu.standing + 256 *
      ((List.finRange 64).countP fun k : SlotId => s.ilu.slots[k].latched && !masked s k) ∧
    (∀ e, activePot s = some e → v 9 = e.conveyorSpeed) ∧ (activePot s = none → v 9 = 0)) ∧
  ∀ (s : State) (l : List Byte), Running s → frameGood l = true → (l.getD 3 0).toNat = 0 → ∃ t,
    exec (.frameArrival l) s = .next t ∧ t.lnk.linkFrom = s.now ∧ t.lnk.good = s.lnk.good + 1 ∧
    t.lnk.bad = s.lnk.bad ∧ t.lnk.badSince = 0 ∧
    t.lnk.lastNumber = some (BitVec.ofNat 16 ((l.getD 0 0).toNat * 256 + (l.getD 1 0).toNat)) ∧
    t.ilu.slots[slotLinkLost].live = false ∧ t.pot.lastFrame = some s.now ∧
    frameGood t.lnk.down = true ∧ t.lnk.down.length = l.length ∧ t.lnk.down.take 4 = l.take 4 ∧
    t.mge = s.mge ∧ t.tbs = s.tbs ∧ t.mdc.mode = s.mdc.mode ∧ t.lines = s.lines ∧ t.now = s.now ∧
    t.trk.pos = s.trk.pos ∧ t.trk.ring = s.trk.ring ∧ t.lst.limits = s.lst.limits ∧
    FaultsKept s t [] ∧ t.exu.lockout = s.exu.lockout ∧
    (let f := readFrame l
    let sent := (readFrame t.lnk.down).slots
    let address : Byte := if s.mdc.strap = 0 ∨ s.mdc.strap = 63 then 0 else s.mdc.strap.setWidth 8
    let breaks (i : SignalId) (x : Slot) : Prop := i.val < 8 ∧ (x.quality = 1 ∨ x.quality = 2 ∨
      (x.quality = 0 ∧ (x.value.toInt < -500 ∨ 6000 < x.value.toInt)))
    let u := stageConsume (goodArrival s f) f
    (∀ (i : SignalId) (n : Nat) (x : Slot), slotOf s i.val = some n → f.slots[n]? = some x →
      (breaks i x →
        signal t i = { signal s i with state := .lost, lastQuality := some x.quality }) ∧
      (¬ breaks i x → x.quality = 0 → (signal s i).lastSeq ≠ some x.seq → signal t i =
        ⟨.valid, some (slotValue i x), some s.now, some x.seq, some 0, some x.producer⟩) ∧
      (¬ breaks i x → x.quality ≠ 0 ∨ (signal s i).lastSeq = some x.seq →
        signal t i = { signal s i with lastQuality := some x.quality })) ∧
    (∀ i : SignalId, (∀ n, slotOf s i.val = some n → (l.getD 2 0).toNat ≤ n) →
      signal t i = signal s i) ∧
    ((∃ (k : Fin 64) (m : MapEntry), s.tbs.slotMap.active.entries[k] = some m ∧
      (l.getD 2 0).toNat ≤ m.slot) → t.lnk.short = s.lnk.short + 1) ∧
    ((∀ (k : Fin 64) (m : MapEntry), s.tbs.slotMap.active.entries[k] = some m →
      m.slot < (l.getD 2 0).toNat) → t.lnk.short = s.lnk.short) ∧
    (∀ (j : Fin 10) (n : Nat), slotOf s (32 + j.val) = some n → n < (l.getD 2 0).toNat →
      t.lnk.produced[j] =
        ⟨(s.lnk.produced[j].seq + 1) % 16, some (BitVec.ofNat 16 (producedValue t j))⟩ ∧
      ((∀ k : Fin 10, k ≠ j → slotOf s (32 + k.val) ≠ some n) → sent[n]? =
        some ⟨BitVec.ofNat 16 (producedValue t j), (s.lnk.produced[j].seq + 1) % 16, 0, address⟩)) ∧
    (∀ n : Nat, (∀ j : Fin 10, slotOf s (32 + j.val) ≠ some n) → sent[n]? = f.slots[n]?) ∧
    (∀ j : Fin 10, (∀ n, slotOf s (32 + j.val) = some n → (l.getD 2 0).toNat ≤ n) →
      t.lnk.produced[j].seq = s.lnk.produced[j].seq ∧
      t.lnk.produced[j].last = if j = 6 then some 0 else s.lnk.produced[j].last) ∧
    (∀ (e : PotEntry) (p : Pump), activePot s = some e →
      (getPump u p).command = (getPump s p).command ∧ (getPump t p).command =
        stepped (max 1 (e.ramp * (match s.pot.lastFrame with
          | some t0 => min 100 (elapsed s.now t0)
          | none => 100) / 1000)) (getPump u p)) ∧
    (∀ (r : State) (i : SignalId) (n : Nat) (x : Slot), slotOf r i.val = some n →
      f.slots[n]? = some x → ¬ breaks i x → x.quality = 0 → (signal r i).lastSeq ≠ some x.seq →
      readConsumed f r i = freshSample { r with lnk := { r.lnk with
        signals := r.lnk.signals.set i { signal r i with lastQuality := some 0 } } }
          i (slotValue i x) x.seq x.producer))

/-- The segments of a record (R180): a malformed one and one out of turn drop the buffer, answer BAD_RECORD and
discard; index 0 drops the held response and the deferred answer, each counted, and starts a record; a segment
in turn is appended; DISCARDING ignores the rest. A complete record is checked in the order of R181: its
length, its CRC, marker and record id, its kind, and the form of its body; the first failure is answered
BAD_RECORD with LENGTH, CRC or FORMAT, or UNKNOWN_KIND with the kind received, and one that passes is
dispatched. A body of a kind without optional fields is of the form exactly at its own length (widths:
assumption 11); that the byte 255 of an item names the header, and that what follows it in a table without a
header is left unjudged for the owner to refuse, is the model's choice (assumption 12). A FREE area takes
the next segment of a held response, laid out byte for byte (R188), which leaves the buffer with its last segment (R183). A REQUEST area with the strap address, not 0 or 63,
brings its segment and is then FREE with address 0 and zeros (R179); any other area is FREE already or passes.
A frame is taken in these stages, and a RESET request that its segment completes is carried out last (R169,
R184); the record of the frame forwarded is the model's (assumption 30). -/
def Obligations.SegmentsOfRecords : Prop :=
  (∀ (rid : Byte) (l : List Byte),
    let field (i : Nat) : Nat := (l.getD i 0).toNat
    let kind := field 0
    let body := (l.take (l.length - 2)).drop 4
    let whole := 6 ≤ l.length ∧ l.length = 4 + (field 2 * 256 + field 3) + 2
    let sound := (crc16 (l.take (l.length - 2))).toNat = field (l.length - 2) * 256 + field (l.length - 1)
    let headed := kind < 128 ∧ l.getD 1 0 = rid
    (¬ whole → checkRecord rid l = .bad .length) ∧
    (whole → ¬ sound → checkRecord rid l = .bad .crc) ∧
    (whole → sound → ¬ headed → checkRecord rid l = .bad .format) ∧
    (whole → sound → headed →
      (kind = 0 ∨ 20 < kind → checkRecord rid l = .unknownKind kind) ∧
      (∀ r, bodyReader kind = some r →
        (readWhole r body = none → checkRecord rid l = .bad .format) ∧
        ∀ q, readWhole r body = some q → checkRecord rid l = .request q) ∧
      (∀ n : Nat, (kind, n) ∈ [(3, 1), (4, 1), (6, 2), (7, 0), (8, 1), (10, 1), (11, 2), (13, 1), (14, 2),
          (15, 0), (16, 5), (17, 0), (18, 32), (19, 0), (20, 0)] →
        (body.length ≠ n → checkRecord rid l = .bad .format) ∧
        (body.length = n → ∃ q, checkRecord rid l = .request q ∧ q.kind = kind)) ∧
      ∀ (a n : Byte) (rest : List Byte), kind = 2 → body = a :: n :: 0xFF :: rest → n ≠ 0 →
        a.toNat ∈ [2, 3, 4, 5, 7, 9, 10, 11] →
        ∃ q, checkRecord rid l = .request (.tableStage q) ∧ ¬ StageGood q)) ∧
  (∀ (s : State) (g : Segment),
    let m := s.mge
    let dropped := countIf m.deferred.isSome (countIf m.response.isSome m.discarded)
    let bad (why : Nat) : Mge := ⟨.discarding g.rid, some ⟨g.rid, 0, .badRecord, why, [], 0⟩, none,
      m.dispatched, m.badRecords + 1, dropped⟩
    let well := 1 ≤ g.length ∧ g.length ≤ 32 ∧ (g.index = 15 → g.last = true)
    (¬ well → segmentArrives s g = { s with mge := bad 2 }) ∧
    (well → g.index = 0 → g.last = false → segmentArrives s g = { s with mge :=
      ⟨.collecting g.rid 1 g.payload, none, none, m.dispatched, m.badRecords, dropped⟩ }) ∧
    let code (why : BadRecord) : Nat := match why with
      | .sequence => 1
      | .length => 2
      | .crc => 3
      | .format => 4
    (well → g.index = 0 → g.last = true →
      (∀ why, checkRecord g.rid g.payload = .bad why →
        segmentArrives s g = { s with mge := { bad (code why) with reassembly := .idle } }) ∧
      (∀ k, checkRecord g.rid g.payload = .unknownKind k → segmentArrives s g = { s with mge :=
        ⟨.idle, some ⟨g.rid, k, .unknownKind, 0, [], 0⟩, none, m.dispatched, m.badRecords, dropped⟩ }) ∧
      (∀ q, checkRecord g.rid g.payload = .request q → segmentArrives s g = arriveWhole s g.rid q)) ∧
    (well → g.index ≠ 0 →
      (m.reassembly = .idle → segmentArrives s g = { s with mge := bad 1 }) ∧
      (∀ rid, m.reassembly = .discarding rid → segmentArrives s g = s) ∧
      (∀ rid e buf, m.reassembly = .collecting rid e buf →
        (g.index ≠ e ∨ g.rid ≠ rid → segmentArrives s g = { s with mge := bad 1 }) ∧
        (g.index = e → g.rid = rid → g.last = false → segmentArrives s g = { s with mge :=
          { m with reassembly := .collecting rid (e + 1) (buf ++ g.payload) } }) ∧
        (g.index = e → g.rid = rid → g.last = true →
          (∀ why, checkRecord rid (buf ++ g.payload) = .bad why →
            segmentArrives s g = { s with mge := { bad (code why) with reassembly := .idle } }) ∧
          (∀ k, checkRecord rid (buf ++ g.payload) = .unknownKind k → segmentArrives s g = { s with mge :=
            { m with
              reassembly := .idle
              response := some ⟨rid, k, .unknownKind, 0, [], 0⟩
              discarded := countIf m.response.isSome m.discarded } }) ∧
          ∀ q, checkRecord rid (buf ++ g.payload) = .request q →
            segmentArrives s g = dispatch { s with mge := { m with reassembly := .idle } } rid q)))) ∧
  (∀ (s : State) (f : Frame), f.areaState = 1 →
    (s.mge.response = none → offerArea s f = (s, f)) ∧
    (∀ r, s.mge.response = some r →
      let head : List Byte := put8 (128 + r.kind) ++ [r.rid] ++ put16 (r.body.length + 2) ++
        put8 r.status.code ++ put8 r.reason ++ r.body
      let whole := head ++ put16 (crc16 head).toNat
      let part := (whole.drop (32 * r.sent)).take 32
      let final := r.sent + 1 = (whole.length + 31) / 32
      offerArea s f = ({ s with mge := { s.mge with
        response := if whole.length ≤ 32 * (r.sent + 1) then none
          else some { r with sent := r.sent + 1 } } },
        { f with
          areaState := 3
          areaAddr := if s.mdc.strap = 0 ∨ s.mdc.strap = 63 then 0 else s.mdc.strap.setWidth 8
          area := [r.rid] ++ put8 ((if final then 128 else 0) + r.sent) ++ put8 part.length ++ part ++
            List.replicate (32 - part.length) 0 }))) ∧
  (∀ (s : State) (f : Frame),
    let mine := f.areaState = 2 ∧ s.mdc.strap ≠ 0 ∧ s.mdc.strap ≠ 63 ∧
      f.areaAddr = s.mdc.strap.setWidth 8
    let h := (f.area.getD 1 0).toNat
    let n := (f.area.getD 2 0).toNat
    let g : Segment := ⟨f.area.getD 0 0, h % 16, decide (128 ≤ h), n, (f.area.drop 3).take n⟩
    (f.areaState ≠ 1 → offerArea s f = (s, f)) ∧
    (¬ mine → stageManage s f = offerArea s f) ∧
    (mine → stageManage s f = offerArea (segmentArrives s g)
      { f with areaState := 1, areaAddr := 0, area := List.replicate 35 0 }) ∧
    (frameResets s f = true ↔ mine ∧ ∃ fresh whole,
      takeSegment s.mge.reassembly g = .complete fresh whole ∧
      checkRecord g.rid whole = .request .reset)) ∧
  (∀ (s : State) (l : List Byte), Running s → frameGood l = true →
    let f := readFrame l
    let u := stageProduce (settle (rampPumps (stageConsume (goodArrival s f) f))) f
    let v := stageManage u.1 u.2
    let t : State := { v.1 with lnk := { v.1.lnk with down := frameBytes v.2 } }
    (frameResets u.1 u.2 = false → exec (.frameArrival l) s = .next t) ∧
    (frameResets u.1 u.2 = true → exec (.frameArrival l) s = .next (warmReset t .resetRequest)))

/-! ### Modes and the Limits Store -/

/-- MAINT_LINE_EDGE (R191, R63, R130): becoming inactive in MAINTENANCE it moves the mode to CONFIG, with no
nozzle test or jog left; in other modes, or becoming active, it changes no mode and nothing else. That a level
the line has already is no edge is the model's choice (assumption 21).
MODE_SET (R190, R192): its checks in order; a target equal to the present mode changes nothing; a move
takes the mode, forms the awaited set and NOT_READY at an entry into RUN, sets NOT_READY at a departure, and
keeps the state of every loop (R67). What the request leaves in MGE beside its answer is assumption 3. -/
def Obligations.ModeChanges : Prop :=
  (∀ (s : State) (level : Bool), Running s →
    let u : State := { s with lines := { s.lines with maint := level } }
    (s.lines.maint = level → exec (.maintLineEdge level) s = .next s) ∧
    (s.lines.maint ≠ level → s.mdc.mode ≠ .maintenance ∨ level = true →
      exec (.maintLineEdge level) s = .next u) ∧
    (s.lines.maint = true → level = false → s.mdc.mode = .maintenance → ∃ t,
      exec (.maintLineEdge level) s = .next t ∧ t.mdc = { s.mdc with mode := .config } ∧
      t.flx.test = none ∧ (∀ t0 d, t.pot.feeder ≠ .jog t0 d) ∧ t.lines = u.lines ∧
      t.trk = s.trk ∧ t.mge = s.mge ∧ t.tbs = s.tbs ∧ t.lnk = s.lnk ∧ t.now = s.now ∧
      t.lst.limits = s.lst.limits ∧ t.pot.state = s.pot.state ∧ Framed s t [] [] [])) ∧
  (∀ (s : State) (rid : Byte) (n : Nat), Running s →
    let c := Instr.modeSet rid n
    (¬ (n = 1 ∨ n = 2 ∨ n = 3) → exec c s = .next (onlyAnswered s rid 10 (refused .range))) ∧
    (∀ m : Mode, (n = 1 ∧ m = .config) ∨ (n = 2 ∧ m = .run) ∨ (n = 3 ∧ m = .maintenance) →
      let free := s.mdc.mode ≠ .starting ∧ s.mdc.mode ≠ m
      let keyed := m = .maintenance → s.lines.maint = true
      let empty := s.mdc.mode = .run → s.trk.queue = []
      let valid := m = .run → s.lst.block ≠ none
      let set := m = .run → s.tbs.slotMap.committed = true ∧ s.tbs.geometry.committed = true ∧
        s.tbs.loop.committed = true ∧ s.tbs.gate.committed = true ∧ s.tbs.phase.committed = true ∧
        s.tbs.pot.committed = true ∧ s.tbs.extraction.committed = true ∧ s.tbs.action.committed = true
      (s.mdc.mode = .starting → exec c s = .next (onlyAnswered s rid 10 (refused .wrongMode))) ∧
      (s.mdc.mode = m → exec c s = .next (onlyAnswered s rid 10 (done (put8 n)))) ∧
      (free → ¬ keyed → exec c s = .next (onlyAnswered s rid 10 (refused .needsMaint))) ∧
      (free → keyed → ¬ empty →
        exec c s = .next (onlyAnswered s rid 10 (refused .boardsInFlight))) ∧
      (free → keyed → empty → ¬ valid →
        exec c s = .next (onlyAnswered s rid 10 (refused .limitsBad))) ∧
      (free → keyed → empty → valid → ¬ set →
        exec c s = .next (onlyAnswered s rid 10 (refused .notConfigured))) ∧
      (free → keyed → empty → valid → set → ∃ t, exec c s = .next t ∧
        t.mge = answered s rid 10 (done (put8 n)) ∧ t.mdc.mode = m ∧
        t.mdc.cause = s.mdc.cause ∧ t.mdc.strap = s.mdc.strap ∧
        (m = .run → t.mdc.notReady = !t.mdc.awaited.isEmpty ∧
          ∀ i : SignalId, i ∈ t.mdc.awaited ↔ mapped s i = true ∧ (signal s i).state ≠ .valid) ∧
        (m ≠ .run → s.mdc.mode = .run → t.mdc.notReady = true) ∧
        (m ≠ .run → s.mdc.mode ≠ .run →
          t.mdc.notReady = s.mdc.notReady ∧ t.mdc.awaited = s.mdc.awaited) ∧
        (s.mdc.mode = .maintenance → t.flx.test = none ∧ ∀ t0 d, t.pot.feeder ≠ .jog t0 d) ∧
        t.lines = s.lines ∧ t.now = s.now ∧ t.tbs = s.tbs ∧ t.lnk = s.lnk ∧ t.trk = s.trk ∧
        t.lst.limits = s.lst.limits ∧ t.lst.storage = s.lst.storage ∧
        Framed s t [] [] [])))

/-- START_READ_COMPLETION (R194, R145): a valid block's limits come into force with its filter hours; any
other content gives the conservative limits, hours 0, and LIMITS_INVALID live with detail 1 for the CRC
and 2 for a range; in both cases the mode moves to CONFIG. A hood that counts keeps the hours taken, or, where
its counting ends at this event, adds the tenths that its time run brings to them (R144); nothing is in flight
after it, or the SAVE of a whole hour that this brings. -/
def Obligations.StartReadCompletion : Prop :=
  ∀ (s : State) (t0 : Time), Running s → s.mdc.mode = .starting → s.lst.op = some (.startRead t0) →
    ∃ t, exec .startReadCompletion s = .next t ∧
    let taken (hours : HoodId → Nat) : Prop := ∀ h : HoodId,
      ((getHood s h).runningSince = none → (getHood s h).accumulator < 360000 →
        (getHood t h).hours = hours h) ∧
      ∀ t1, (getHood s h).runningSince = some t1 → (getHood t h).hours = hours h ∨
        (getHood t h).hours = min 4294967295
          (hours h + ((getHood s h).accumulator + elapsed s.now t1) / 360000)
    t.mdc = { s.mdc with mode := .config } ∧
    ((∀ h : HoodId, (getHood s h).runningSince = none) → AccumulatorLaw s → t.lst.op = none) ∧
    (t.lst.op = none ∨ ∃ b, t.lst.op = some (.save s.now b)) ∧ t.lst.storage = s.lst.storage ∧
    t.trk = s.trk ∧ t.mge = s.mge ∧ t.tbs = s.tbs ∧ t.lnk = s.lnk ∧ t.lines = s.lines ∧
    Framed s t [slotLimitsInvalid] [] [] ∧ PotKept s t ∧
    (∀ b, readBlock s.lst.storage = some b → b.inRange = true →
      t.lst.limits = some ⟨b.hardMax, b.ceiling, b.lockoutMin, some b.service⟩ ∧
      t.lst.block = some b ∧ t.ilu.slots[slotLimitsInvalid].live = false ∧ taken fun h => b.hours[h]) ∧
    (∀ d, (readBlock s.lst.storage = none ∧ d = 1) ∨
        (∃ b, readBlock s.lst.storage = some b ∧ b.inRange = false ∧ d = 2) →
      t.lst.block = none ∧ t.ilu.slots[slotLimitsInvalid] = ⟨true, true, d⟩ ∧
      t.lst.limits = some ⟨Vector.replicate 7 3000, Vector.replicate 3 0, 10, none⟩ ∧ taken fun _ => 0)

/-- LIMITS_WRITE (R195, R184): RANGE, NEEDS_MAINT, WRONG_MODE and BUSY in that order; an accepted one starts
the WRITE of its fields with the hours as they stand and the write count increased by 1, and leaves a deferred
answer; the limits in force do not change yet. What the request leaves in MGE beside its answer is assumption
3. -/
def Obligations.LimitsWrite : Prop :=
  ∀ (s : State) (rid : Byte) (f : LimitsFields), Running s →
    let c := Instr.limitsWrite rid f
    let ranged := (∀ l : LoopId, 0 ≤ f.hardMax[l] ∧ f.hardMax[l] ≤ 6000) ∧
      (∀ p : PhaseId, f.ceiling[p] ≤ 1000) ∧ (10 ≤ f.lockoutMin ∧ f.lockoutMin ≤ 600) ∧
      ∀ h : HoodId, 1 ≤ f.service[h] ∧ f.service[h] ≤ 10000
    (¬ ranged → exec c s = .next (onlyAnswered s rid 18 (refused .range))) ∧
    (ranged → s.lines.maint = false →
      exec c s = .next (onlyAnswered s rid 18 (refused .needsMaint))) ∧
    (ranged → s.lines.maint = true → s.mdc.mode = .starting →
      exec c s = .next (onlyAnswered s rid 18 (refused .wrongMode))) ∧
    (ranged → s.lines.maint = true → s.mdc.mode ≠ .starting → s.lst.op ≠ none →
      exec c s = .next (onlyAnswered s rid 18 busy)) ∧
    (ranged → s.lines.maint = true → s.mdc.mode ≠ .starting → s.lst.op = none → ∃ b : Block,
      exec c s = .next { s with
        lst := { s.lst with op := some (.write s.now b) }
        mge := { answered s rid 18 busy with response := none, deferred := some (rid, 18) } } ∧
      b.hardMax = f.hardMax ∧ b.ceiling = f.ceiling ∧ b.lockoutMin = f.lockoutMin ∧
      b.service = f.service ∧
      (∀ x, s.lst.block = some x → b.hours = x.hours) ∧
      (s.lst.block = none → ∀ h : HoodId, b.hours[h] = 0) ∧
      (∀ x, readBlock s.lst.storage = some x → b.writeCount = min 65535 (x.writeCount + 1)))

/-- WRITE_COMPLETION (R195, R184): read back valid, the block's limits come into force, LIMITS_INVALID clears
and a deferred answer is DONE with the write count; invalid, the conservative limits come into force,
LIMITS_INVALID is live with detail 3 and the answer is FAILED, LIMITS_BAD.
SAVE_COMPLETION (R196): read back valid, the limits in force stay and the block is the one written;
invalid, the conservative limits come into force and LIMITS_INVALID is live with detail 3.
After either, read back valid, one SAVE with the count of every hood whose save waited is in flight, and none
where none waited; read back invalid, the waiting saves are dropped and nothing is in flight; no save waits
(R196). A filter that counts may hand over a whole hour at the same event, so that two of these clauses are
about hoods that do not count.
That the completion's operand is what the storage then holds is the model's choice (assumption 15); that a check
gives a live LIMITS_INVALID its own detail anew is DEDUCED (assumption 26). -/
def Obligations.StorageCompletions : Prop :=
  let idle (s : State) : Prop := (∀ h : HoodId, (getHood s h).runningSince = none) ∧ AccumulatorLaw s
  let saves (s t : State) (b : Block) : Prop :=
    ((∃ h : HoodId, s.lst.waiting[h] ≠ none) → t.lst.op = some (.save s.now { b with
      hours := Vector.ofFn fun h : HoodId => (s.lst.waiting[h]).getD b.hours[h] })) ∧
    (idle s → (∀ h : HoodId, s.lst.waiting[h] = none) → t.lst.op = none) ∧
    (idle s → ∀ h : HoodId, t.lst.waiting[h] = none)
  let drops (t : State) : Prop := t.lst.op = none ∧ ∀ h : HoodId, t.lst.waiting[h] = none
  (∀ (s : State) (t0 : Time) (b : Block), Running s → s.lst.op = some (.write t0 b) →
    let answer (m : Mge) (r : Reply) : Prop :=
      (s.mge.deferred = none → m = s.mge) ∧
      (∀ rid k, s.mge.deferred = some (rid, k) →
        m = { s.mge with
          response := some ⟨rid, k, r.status, r.reason, r.body, 0⟩
          deferred := none
          discarded := countIf s.mge.response.isSome s.mge.discarded })
    (b.inRange = true → (∀ h : HoodId, b.hours[h] < 2 ^ 32) → b.writeCount < 2 ^ 16 → ∃ t,
      exec (.writeCompletion none) s = .next t ∧ t.lst.storage = putBlock b ∧
      t.lst.limits = some ⟨b.hardMax, b.ceiling, b.lockoutMin, some b.service⟩ ∧
      t.lst.block = some b ∧ t.ilu.slots[slotLimitsInvalid].live = false ∧
      answer t.mge (done (put16 b.writeCount)) ∧ saves s t b ∧ FaultsKept s t [] ∧ t.tbs = s.tbs ∧
      t.trk = s.trk ∧ t.lnk = s.lnk ∧ t.mdc = s.mdc ∧ t.lines = s.lines) ∧
    (∀ l : List Byte, (∀ x, readBlock l = some x → x.inRange = false) → ∃ t,
      exec (.writeCompletion (some l)) s = .next t ∧ t.lst.storage = l ∧ t.lst.block = none ∧
      t.lst.limits = some ⟨Vector.replicate 7 3000, Vector.replicate 3 0, 10, none⟩ ∧
      t.ilu.slots[slotLimitsInvalid] = ⟨true, true, 3⟩ ∧ answer t.mge ⟨.failed, 12, []⟩ ∧ drops t ∧
      t.tbs = s.tbs ∧ t.trk = s.trk ∧ t.lnk = s.lnk ∧ t.mdc = s.mdc ∧ t.lines = s.lines)) ∧
  (∀ (s : State) (t0 : Time) (b : Block), Running s → s.lst.op = some (.save t0 b) →
    (b.inRange = true → (∀ h : HoodId, b.hours[h] < 2 ^ 32) → b.writeCount < 2 ^ 16 → ∃ t,
      exec (.saveCompletion none) s = .next t ∧ t.lst.storage = putBlock b ∧
      t.lst.limits = s.lst.limits ∧ t.lst.block = some b ∧ saves s t b ∧ t.mge = s.mge ∧ t.trk = s.trk ∧
      t.tbs = s.tbs ∧ t.lnk = s.lnk ∧ t.mdc = s.mdc ∧ Framed s t [] [] [] ∧ PotKept s t) ∧
    (∀ l : List Byte, (∀ x, readBlock l = some x → x.inRange = false) → ∃ t,
      exec (.saveCompletion (some l)) s = .next t ∧ t.lst.storage = l ∧ t.lst.block = none ∧
      t.lst.limits = some ⟨Vector.replicate 7 3000, Vector.replicate 3 0, 10, none⟩ ∧
      t.ilu.slots[slotLimitsInvalid] = ⟨true, true, 3⟩ ∧ drops t ∧ t.mge = s.mge ∧ t.trk = s.trk ∧
      t.tbs = s.tbs ∧ t.lnk = s.lnk ∧ t.mdc = s.mdc))

/-! ### Packed forms -/

/-- The packed forms are read back: a limits block of fields at every value their widths admit (R193, R188);
and the contents that TABLE_READ writes and TABLE_STAGE reads: each table's entry or header, the slot map's
header in a whole item, every field at every value its width admits, with what follows it left (R29, R31, R188).
The layout of the fields is the model's choice (assumptions 11 and 29), and so is the byte 255 that names the
header in an item (assumption 12). -/
def Obligations.PackedFormsReadBack : Prop :=
  (∀ b : Block, (∀ l : LoopId, -32768 ≤ b.hardMax[l] ∧ b.hardMax[l] < 32768) →
      (∀ p : PhaseId, b.ceiling[p] < 2 ^ 16) → b.lockoutMin < 2 ^ 32 →
      (∀ h : HoodId, b.hours[h] < 2 ^ 32 ∧ b.service[h] < 2 ^ 32) → b.writeCount < 2 ^ 16 →
      readBlock (putBlock b) = some b) ∧
  (∀ e l, WellFormed.mapEntry e = true → getMapEntry (putMapEntry e ++ l) = some (.filled e, l)) ∧
  (∀ e l, WellFormed.geometry e = true → getGeometry (putGeometry e ++ l) = some (.filled e, l)) ∧
  (∀ e l, WellFormed.loopEntry e = true → getLoopEntry (putLoopEntry e ++ l) = some (.filled e, l)) ∧
  (∀ e l, WellFormed.gateEntry e = true → getGateEntry (putGateEntry e ++ l) = some (.filled e, l)) ∧
  (∀ e l, WellFormed.phaseEntry e = true → getPhaseEntry (putPhaseEntry e ++ l) = some (.filled e, l)) ∧
  (∀ e l, WellFormed.recipeHeader e = true →
    getRecipeHeader (putRecipeHeader e ++ l) = some (.filled e, l)) ∧
  (∀ e l, WellFormed.recipe e = true → getRecipe (putRecipe e ++ l) = some (.filled e, l)) ∧
  (∀ e l, WellFormed.fluxMap e = true → getFluxMap (putFluxMap e ++ l) = some (.filled e, l)) ∧
  (∀ e l, WellFormed.nozzleHeader e = true →
    getNozzleHeader (putNozzleHeader e ++ l) = some (.filled e, l)) ∧
  (∀ e l, WellFormed.nozzleEntry e = true →
    getNozzleEntry (putNozzleEntry e ++ l) = some (.filled e, l)) ∧
  (∀ e l, WellFormed.potEntry e = true → getPotEntry (putPotEntry e ++ l) = some (.filled e, l)) ∧
  (∀ e l, WellFormed.extractionEntry e = true →
    getExtractionEntry (putExtractionEntry e ++ l) = some (.filled e, l)) ∧
  (∀ e l, WellFormed.actionEntry e = true →
    getActionEntry (putActionEntry e ++ l) = some (.filled e, l)) ∧
  (∀ (n : Nat) (l : List Byte), n < 2 ^ 32 →
    getItem (do return named (some (← get32))) getMapEntry (0xFF :: 1 :: (put32 n ++ l)) =
      some (.header (.filled n), l))

/-! ### The laws every step keeps -/

/-- The state after reset meets every law. -/
def Obligations.ResetMeetsTheLaws : Prop :=
  Tracking State.reset ∧ TagsDistinct State.reset ∧ LatchedWhileLive State.reset ∧
    CreditsBounded State.reset ∧ FiringLaw State.reset ∧ AdmissionLaw State.reset ∧
    FumeLaw State.reset ∧ PermitLaw State.reset ∧ SetpointLaw State.reset ∧ DemandLaw State.reset ∧
    SetbackLaw State.reset ∧ AccumulatorLaw State.reset ∧ ClassLaw State.reset ∧ TestLaw State.reset

/-- Every step keeps the capacities of ring and queues and the relation of the two counts to the queue (R13,
R15, R22, R25).
Every step keeps each nonzero tag at most once across ring and queue (R15).
Every step keeps every live slot latched (R151).
Every step keeps the law that the pot is in SETBACK only with queue and ring empty (R113). -/
def Obligations.StepKeepsTrackingAndAlarms : Prop :=
  ((∀ s t : State, Tracking s → step s = .next t → Tracking t) ∧
  (∀ s t : State, TagsDistinct s → step s = .next t → TagsDistinct t)) ∧
  ((∀ s t : State, LatchedWhileLive s → step s = .next t → LatchedWhileLive t) ∧
  (∀ s t : State, SetbackLaw s → step s = .next t → SetbackLaw t))

/-- Every step keeps the credits within 0 to 2000 (R95) and the law of firing (R93).
Every step keeps every setpoint 5.0 °C below its hard maximum (R75), and integral and demand within their
ranges (R66). -/
def Obligations.StepKeepsFiringAndLoops : Prop :=
  (∀ s t : State, CreditsBounded s → FiringLaw s → step s = .next t → CreditsBounded t ∧ FiringLaw t) ∧
  (∀ s t : State, SetpointLaw s → DemandLaw s → step s = .next t → SetpointLaw t ∧ DemandLaw t)

/-- Every step keeps the laws of the entry permit (R161), of the fume lockout (R140) and of PERMIT (R158), and
each run accumulator below the 360,000 ms that make a tenth of an hour (R144), every class of the action table in
force at most 5 (R46), and the valve of a nozzle under test open for the test (R52, R62, R63). -/
def Obligations.StepKeepsInterlocks : Prop :=
  (∀ s t : State, AdmissionLaw s → FumeLaw s → PermitLaw s → step s = .next t →
    AdmissionLaw t ∧ FumeLaw t ∧ PermitLaw t) ∧
  (∀ s t : State, AccumulatorLaw s → step s = .next t → AccumulatorLaw t) ∧
  (∀ s t : State, ClassLaw s → step s = .next t → ClassLaw t) ∧
  ∀ s t : State, TestLaw s → step s = .next t → TestLaw t

/-- What the judgements that follow every event leave alone, and four alarms after them. SENSOR_LOST of a loop is
live while the loop is ACTIVE or FAULT and its signal lost, for P both, with the signal id, 6 for P (R71, R80);
FLUX_PRESSURE_LOW while a spray window is open and FLUX.PRESS is lost or absent or below the minimum in force,
with the tag of the oldest such board (R60); FAN_NOT_RUNNING of a hood while its fan is commanded above 0 and
stopped and no grace runs, with the feedback or 0 (R143), once the extraction table is committed (R136); and
FILTER_SERVICE_DUE while a hood's hours are at or above ten times its service interval, with a hood that is due,
F where both were (R146), before the extraction table's commit too (DEDUCED, assumption 43). That the judgements
follow every event, in rounds, is the model's choice (assumption 10). -/
def Obligations.JudgementsKeepTheRest : Prop :=
  ∀ s : State,
    let t := settle s
    let readable (i : SignalId) : Prop := (signal s i).state = .valid ∨ (signal s i).state = .held
    let reads (i : SignalId) (v : Int) : Prop := readable i ∧ (signal s i).value = some v
    let lost (i : SignalId) : Prop := (signal s i).state = .lost ∨
      ((signal s i).state = .absent ∧ mapped s i = false)
    let rose (k : SlotId) (detail : Int) : Prop := t.ilu.slots[k].live = true →
      s.ilu.slots[k].live = false → t.ilu.slots[k] = ⟨true, true, detail⟩
    SettledFrame s t ∧
    (∀ l : LoopId, SlotJudged s t (slotSensorLost l) ((getLoop s l).mode ≠ .off ∧
      (∀ i : SignalId, i.val = l.val → lost i) ∧ (l = loopP → lost sigPB)) l.val) ∧
    ((∀ b ∈ s.trk.queue, b.windows.spray ≠ .opened) → SlotJudged s t slotFluxPressure False 0) ∧
    (∀ older b newer, s.trk.queue = older ++ b :: newer → (∀ x ∈ older, x.windows.spray ≠ .opened) →
      b.windows.spray = .opened → SlotJudged s t slotFluxPressure
        (∃ e, s.tbs.nozzle.active.header = some e ∧ ∀ v, reads sigFlux v → v < e.minPress) b.data.tag) ∧
    (∀ h : HoodId,
      let stopped := (∃ v, reads (sigFan h) v ∧ v < 50) ∨
        ((∀ v, ¬ reads (sigFan h) v) ∧ mapped s (sigFan h) = true)
      (t.ilu.slots[slotFanStopped h].live = true ↔ activeExtraction s h ≠ none ∧
        0 < (getHood t h).fan ∧ stopped ∧ (getHood t h).graceFrom = none) ∧
      (∀ v, reads (sigFan h) v → rose (slotFanStopped h) v) ∧
      ((∀ v, ¬ reads (sigFan h) v) → rose (slotFanStopped h) 0)) ∧
    (let due (u : State) (h : HoodId) : Prop := ∃ x v, s.lst.limits = some x ∧ x.service = some v ∧
      10 * v[h] ≤ (getHood u h).hours
    (t.ilu.slots[slotServiceDue].live = true ↔ due t hoodF ∨ due t hoodP) ∧
    (due s hoodF → due t hoodF → rose slotServiceDue 0) ∧
    (¬ due s hoodF → ¬ due t hoodF → rose slotServiceDue 1) ∧
    (∀ h : HoodId, due s h → due t h → s.ilu.slots[slotServiceDue].live = true →
      t.ilu.slots[slotServiceDue] = s.ilu.slots[slotServiceDue]))
end

