-- ==== Sys2Proof/Laws/State.lean ====
section
/-! SUPPORT. The field lemmas of the named updates: what each leaves as it was, and what it changes. -/

namespace Sys2Proof.Machine

/-! ### The members of fixed-size collections -/

@[simp] theorem upd_same {α : Type} {n : Nat} (v : Vector α n) (i : Fin n) (f : α → α) :
    (upd v i f)[i.val] = f v[i.val] := by simp [upd]

theorem upd_other {α : Type} {n : Nat} (v : Vector α n) (i j : Fin n) (f : α → α) (h : j ≠ i) :
    (upd v i f)[j.val] = v[j.val] := by
  have h' : i.val ≠ j.val := fun e => h (Fin.ext e.symm)
  simp [upd, h']

/-! ### updSlot -/

@[simp] theorem updSlot_lines (s : State) (k : SlotId) (f : AlarmSlot → AlarmSlot) : (updSlot s k f).lines = s.lines := rfl
@[simp] theorem updSlot_now (s : State) (k : SlotId) (f : AlarmSlot → AlarmSlot) : (updSlot s k f).now = s.now := rfl
@[simp] theorem updSlot_trk (s : State) (k : SlotId) (f : AlarmSlot → AlarmSlot) : (updSlot s k f).trk = s.trk := rfl
@[simp] theorem updSlot_tbs (s : State) (k : SlotId) (f : AlarmSlot → AlarmSlot) : (updSlot s k f).tbs = s.tbs := rfl
@[simp] theorem updSlot_flx (s : State) (k : SlotId) (f : AlarmSlot → AlarmSlot) : (updSlot s k f).flx = s.flx := rfl
@[simp] theorem updSlot_lpu (s : State) (k : SlotId) (f : AlarmSlot → AlarmSlot) : (updSlot s k f).lpu = s.lpu := rfl
@[simp] theorem updSlot_fal (s : State) (k : SlotId) (f : AlarmSlot → AlarmSlot) : (updSlot s k f).fal = s.fal := rfl
@[simp] theorem updSlot_pot (s : State) (k : SlotId) (f : AlarmSlot → AlarmSlot) : (updSlot s k f).pot = s.pot := rfl
@[simp] theorem updSlot_exu (s : State) (k : SlotId) (f : AlarmSlot → AlarmSlot) : (updSlot s k f).exu = s.exu := rfl
@[simp] theorem updSlot_lnk (s : State) (k : SlotId) (f : AlarmSlot → AlarmSlot) : (updSlot s k f).lnk = s.lnk := rfl
@[simp] theorem updSlot_mge (s : State) (k : SlotId) (f : AlarmSlot → AlarmSlot) : (updSlot s k f).mge = s.mge := rfl
@[simp] theorem updSlot_mdc (s : State) (k : SlotId) (f : AlarmSlot → AlarmSlot) : (updSlot s k f).mdc = s.mdc := rfl
@[simp] theorem updSlot_lst (s : State) (k : SlotId) (f : AlarmSlot → AlarmSlot) : (updSlot s k f).lst = s.lst := rfl
@[simp] theorem updSlot_freeIndex (s : State) (k : SlotId) (f : AlarmSlot → AlarmSlot) : (updSlot s k f).freeIndex = s.freeIndex := rfl
@[simp] theorem updSlot_pending (s : State) (k : SlotId) (f : AlarmSlot → AlarmSlot) : (updSlot s k f).pending = s.pending := rfl

/-! ### updLoop -/

@[simp] theorem updLoop_lines (s : State) (l : LoopId) (f : Loop → Loop) : (updLoop s l f).lines = s.lines := rfl
@[simp] theorem updLoop_now (s : State) (l : LoopId) (f : Loop → Loop) : (updLoop s l f).now = s.now := rfl
@[simp] theorem updLoop_trk (s : State) (l : LoopId) (f : Loop → Loop) : (updLoop s l f).trk = s.trk := rfl
@[simp] theorem updLoop_tbs (s : State) (l : LoopId) (f : Loop → Loop) : (updLoop s l f).tbs = s.tbs := rfl
@[simp] theorem updLoop_flx (s : State) (l : LoopId) (f : Loop → Loop) : (updLoop s l f).flx = s.flx := rfl
@[simp] theorem updLoop_fal (s : State) (l : LoopId) (f : Loop → Loop) : (updLoop s l f).fal = s.fal := rfl
@[simp] theorem updLoop_pot (s : State) (l : LoopId) (f : Loop → Loop) : (updLoop s l f).pot = s.pot := rfl
@[simp] theorem updLoop_exu (s : State) (l : LoopId) (f : Loop → Loop) : (updLoop s l f).exu = s.exu := rfl
@[simp] theorem updLoop_ilu (s : State) (l : LoopId) (f : Loop → Loop) : (updLoop s l f).ilu = s.ilu := rfl
@[simp] theorem updLoop_lnk (s : State) (l : LoopId) (f : Loop → Loop) : (updLoop s l f).lnk = s.lnk := rfl
@[simp] theorem updLoop_mge (s : State) (l : LoopId) (f : Loop → Loop) : (updLoop s l f).mge = s.mge := rfl
@[simp] theorem updLoop_mdc (s : State) (l : LoopId) (f : Loop → Loop) : (updLoop s l f).mdc = s.mdc := rfl
@[simp] theorem updLoop_lst (s : State) (l : LoopId) (f : Loop → Loop) : (updLoop s l f).lst = s.lst := rfl
@[simp] theorem updLoop_freeIndex (s : State) (l : LoopId) (f : Loop → Loop) : (updLoop s l f).freeIndex = s.freeIndex := rfl
@[simp] theorem updLoop_pending (s : State) (l : LoopId) (f : Loop → Loop) : (updLoop s l f).pending = s.pending := rfl

/-! ### updHood -/

@[simp] theorem updHood_lines (s : State) (h : HoodId) (f : Hood → Hood) : (updHood s h f).lines = s.lines := rfl
@[simp] theorem updHood_now (s : State) (h : HoodId) (f : Hood → Hood) : (updHood s h f).now = s.now := rfl
@[simp] theorem updHood_trk (s : State) (h : HoodId) (f : Hood → Hood) : (updHood s h f).trk = s.trk := rfl
@[simp] theorem updHood_tbs (s : State) (h : HoodId) (f : Hood → Hood) : (updHood s h f).tbs = s.tbs := rfl
@[simp] theorem updHood_flx (s : State) (h : HoodId) (f : Hood → Hood) : (updHood s h f).flx = s.flx := rfl
@[simp] theorem updHood_lpu (s : State) (h : HoodId) (f : Hood → Hood) : (updHood s h f).lpu = s.lpu := rfl
@[simp] theorem updHood_fal (s : State) (h : HoodId) (f : Hood → Hood) : (updHood s h f).fal = s.fal := rfl
@[simp] theorem updHood_pot (s : State) (h : HoodId) (f : Hood → Hood) : (updHood s h f).pot = s.pot := rfl
@[simp] theorem updHood_ilu (s : State) (h : HoodId) (f : Hood → Hood) : (updHood s h f).ilu = s.ilu := rfl
@[simp] theorem updHood_lnk (s : State) (h : HoodId) (f : Hood → Hood) : (updHood s h f).lnk = s.lnk := rfl
@[simp] theorem updHood_mge (s : State) (h : HoodId) (f : Hood → Hood) : (updHood s h f).mge = s.mge := rfl
@[simp] theorem updHood_mdc (s : State) (h : HoodId) (f : Hood → Hood) : (updHood s h f).mdc = s.mdc := rfl
@[simp] theorem updHood_lst (s : State) (h : HoodId) (f : Hood → Hood) : (updHood s h f).lst = s.lst := rfl
@[simp] theorem updHood_freeIndex (s : State) (h : HoodId) (f : Hood → Hood) : (updHood s h f).freeIndex = s.freeIndex := rfl
@[simp] theorem updHood_pending (s : State) (h : HoodId) (f : Hood → Hood) : (updHood s h f).pending = s.pending := rfl

/-! ### updPhase -/

@[simp] theorem updPhase_lines (s : State) (p : PhaseId) (f : Phase → Phase) : (updPhase s p f).lines = s.lines := rfl
@[simp] theorem updPhase_now (s : State) (p : PhaseId) (f : Phase → Phase) : (updPhase s p f).now = s.now := rfl
@[simp] theorem updPhase_trk (s : State) (p : PhaseId) (f : Phase → Phase) : (updPhase s p f).trk = s.trk := rfl
@[simp] theorem updPhase_tbs (s : State) (p : PhaseId) (f : Phase → Phase) : (updPhase s p f).tbs = s.tbs := rfl
@[simp] theorem updPhase_flx (s : State) (p : PhaseId) (f : Phase → Phase) : (updPhase s p f).flx = s.flx := rfl
@[simp] theorem updPhase_lpu (s : State) (p : PhaseId) (f : Phase → Phase) : (updPhase s p f).lpu = s.lpu := rfl
@[simp] theorem updPhase_pot (s : State) (p : PhaseId) (f : Phase → Phase) : (updPhase s p f).pot = s.pot := rfl
@[simp] theorem updPhase_exu (s : State) (p : PhaseId) (f : Phase → Phase) : (updPhase s p f).exu = s.exu := rfl
@[simp] theorem updPhase_ilu (s : State) (p : PhaseId) (f : Phase → Phase) : (updPhase s p f).ilu = s.ilu := rfl
@[simp] theorem updPhase_lnk (s : State) (p : PhaseId) (f : Phase → Phase) : (updPhase s p f).lnk = s.lnk := rfl
@[simp] theorem updPhase_mge (s : State) (p : PhaseId) (f : Phase → Phase) : (updPhase s p f).mge = s.mge := rfl
@[simp] theorem updPhase_mdc (s : State) (p : PhaseId) (f : Phase → Phase) : (updPhase s p f).mdc = s.mdc := rfl
@[simp] theorem updPhase_lst (s : State) (p : PhaseId) (f : Phase → Phase) : (updPhase s p f).lst = s.lst := rfl
@[simp] theorem updPhase_freeIndex (s : State) (p : PhaseId) (f : Phase → Phase) : (updPhase s p f).freeIndex = s.freeIndex := rfl
@[simp] theorem updPhase_pending (s : State) (p : PhaseId) (f : Phase → Phase) : (updPhase s p f).pending = s.pending := rfl

/-! ### updNozzle -/

@[simp] theorem updNozzle_lines (s : State) (n : NozzleId) (f : Nozzle → Nozzle) : (updNozzle s n f).lines = s.lines := rfl
@[simp] theorem updNozzle_now (s : State) (n : NozzleId) (f : Nozzle → Nozzle) : (updNozzle s n f).now = s.now := rfl
@[simp] theorem updNozzle_trk (s : State) (n : NozzleId) (f : Nozzle → Nozzle) : (updNozzle s n f).trk = s.trk := rfl
@[simp] theorem updNozzle_tbs (s : State) (n : NozzleId) (f : Nozzle → Nozzle) : (updNozzle s n f).tbs = s.tbs := rfl
@[simp] theorem updNozzle_lpu (s : State) (n : NozzleId) (f : Nozzle → Nozzle) : (updNozzle s n f).lpu = s.lpu := rfl
@[simp] theorem updNozzle_fal (s : State) (n : NozzleId) (f : Nozzle → Nozzle) : (updNozzle s n f).fal = s.fal := rfl
@[simp] theorem updNozzle_pot (s : State) (n : NozzleId) (f : Nozzle → Nozzle) : (updNozzle s n f).pot = s.pot := rfl
@[simp] theorem updNozzle_exu (s : State) (n : NozzleId) (f : Nozzle → Nozzle) : (updNozzle s n f).exu = s.exu := rfl
@[simp] theorem updNozzle_ilu (s : State) (n : NozzleId) (f : Nozzle → Nozzle) : (updNozzle s n f).ilu = s.ilu := rfl
@[simp] theorem updNozzle_lnk (s : State) (n : NozzleId) (f : Nozzle → Nozzle) : (updNozzle s n f).lnk = s.lnk := rfl
@[simp] theorem updNozzle_mge (s : State) (n : NozzleId) (f : Nozzle → Nozzle) : (updNozzle s n f).mge = s.mge := rfl
@[simp] theorem updNozzle_mdc (s : State) (n : NozzleId) (f : Nozzle → Nozzle) : (updNozzle s n f).mdc = s.mdc := rfl
@[simp] theorem updNozzle_lst (s : State) (n : NozzleId) (f : Nozzle → Nozzle) : (updNozzle s n f).lst = s.lst := rfl
@[simp] theorem updNozzle_freeIndex (s : State) (n : NozzleId) (f : Nozzle → Nozzle) : (updNozzle s n f).freeIndex = s.freeIndex := rfl
@[simp] theorem updNozzle_pending (s : State) (n : NozzleId) (f : Nozzle → Nozzle) : (updNozzle s n f).pending = s.pending := rfl

/-! ### updBoard -/

@[simp] theorem updBoard_lines (s : State) (p : Pos) (f : Board → Board) : (updBoard s p f).lines = s.lines := rfl
@[simp] theorem updBoard_now (s : State) (p : Pos) (f : Board → Board) : (updBoard s p f).now = s.now := rfl
@[simp] theorem updBoard_tbs (s : State) (p : Pos) (f : Board → Board) : (updBoard s p f).tbs = s.tbs := rfl
@[simp] theorem updBoard_flx (s : State) (p : Pos) (f : Board → Board) : (updBoard s p f).flx = s.flx := rfl
@[simp] theorem updBoard_lpu (s : State) (p : Pos) (f : Board → Board) : (updBoard s p f).lpu = s.lpu := rfl
@[simp] theorem updBoard_fal (s : State) (p : Pos) (f : Board → Board) : (updBoard s p f).fal = s.fal := rfl
@[simp] theorem updBoard_pot (s : State) (p : Pos) (f : Board → Board) : (updBoard s p f).pot = s.pot := rfl
@[simp] theorem updBoard_exu (s : State) (p : Pos) (f : Board → Board) : (updBoard s p f).exu = s.exu := rfl
@[simp] theorem updBoard_ilu (s : State) (p : Pos) (f : Board → Board) : (updBoard s p f).ilu = s.ilu := rfl
@[simp] theorem updBoard_lnk (s : State) (p : Pos) (f : Board → Board) : (updBoard s p f).lnk = s.lnk := rfl
@[simp] theorem updBoard_mge (s : State) (p : Pos) (f : Board → Board) : (updBoard s p f).mge = s.mge := rfl
@[simp] theorem updBoard_mdc (s : State) (p : Pos) (f : Board → Board) : (updBoard s p f).mdc = s.mdc := rfl
@[simp] theorem updBoard_lst (s : State) (p : Pos) (f : Board → Board) : (updBoard s p f).lst = s.lst := rfl
@[simp] theorem updBoard_freeIndex (s : State) (p : Pos) (f : Board → Board) : (updBoard s p f).freeIndex = s.freeIndex := rfl
@[simp] theorem updBoard_pending (s : State) (p : Pos) (f : Board → Board) : (updBoard s p f).pending = s.pending := rfl

/-! ### updSignal -/

@[simp] theorem updSignal_lines (s : State) (i : SignalId) (f : Signal → Signal) : (updSignal s i f).lines = s.lines := rfl
@[simp] theorem updSignal_now (s : State) (i : SignalId) (f : Signal → Signal) : (updSignal s i f).now = s.now := rfl
@[simp] theorem updSignal_trk (s : State) (i : SignalId) (f : Signal → Signal) : (updSignal s i f).trk = s.trk := rfl
@[simp] theorem updSignal_tbs (s : State) (i : SignalId) (f : Signal → Signal) : (updSignal s i f).tbs = s.tbs := rfl
@[simp] theorem updSignal_flx (s : State) (i : SignalId) (f : Signal → Signal) : (updSignal s i f).flx = s.flx := rfl
@[simp] theorem updSignal_lpu (s : State) (i : SignalId) (f : Signal → Signal) : (updSignal s i f).lpu = s.lpu := rfl
@[simp] theorem updSignal_fal (s : State) (i : SignalId) (f : Signal → Signal) : (updSignal s i f).fal = s.fal := rfl
@[simp] theorem updSignal_pot (s : State) (i : SignalId) (f : Signal → Signal) : (updSignal s i f).pot = s.pot := rfl
@[simp] theorem updSignal_exu (s : State) (i : SignalId) (f : Signal → Signal) : (updSignal s i f).exu = s.exu := rfl
@[simp] theorem updSignal_ilu (s : State) (i : SignalId) (f : Signal → Signal) : (updSignal s i f).ilu = s.ilu := rfl
@[simp] theorem updSignal_mge (s : State) (i : SignalId) (f : Signal → Signal) : (updSignal s i f).mge = s.mge := rfl
@[simp] theorem updSignal_mdc (s : State) (i : SignalId) (f : Signal → Signal) : (updSignal s i f).mdc = s.mdc := rfl
@[simp] theorem updSignal_lst (s : State) (i : SignalId) (f : Signal → Signal) : (updSignal s i f).lst = s.lst := rfl
@[simp] theorem updSignal_freeIndex (s : State) (i : SignalId) (f : Signal → Signal) : (updSignal s i f).freeIndex = s.freeIndex := rfl
@[simp] theorem updSignal_pending (s : State) (i : SignalId) (f : Signal → Signal) : (updSignal s i f).pending = s.pending := rfl

/-! ### updMge -/

@[simp] theorem updMge_lines (s : State) (f : Mge → Mge) : (updMge s f).lines = s.lines := rfl
@[simp] theorem updMge_now (s : State) (f : Mge → Mge) : (updMge s f).now = s.now := rfl
@[simp] theorem updMge_trk (s : State) (f : Mge → Mge) : (updMge s f).trk = s.trk := rfl
@[simp] theorem updMge_tbs (s : State) (f : Mge → Mge) : (updMge s f).tbs = s.tbs := rfl
@[simp] theorem updMge_flx (s : State) (f : Mge → Mge) : (updMge s f).flx = s.flx := rfl
@[simp] theorem updMge_lpu (s : State) (f : Mge → Mge) : (updMge s f).lpu = s.lpu := rfl
@[simp] theorem updMge_fal (s : State) (f : Mge → Mge) : (updMge s f).fal = s.fal := rfl
@[simp] theorem updMge_pot (s : State) (f : Mge → Mge) : (updMge s f).pot = s.pot := rfl
@[simp] theorem updMge_exu (s : State) (f : Mge → Mge) : (updMge s f).exu = s.exu := rfl
@[simp] theorem updMge_ilu (s : State) (f : Mge → Mge) : (updMge s f).ilu = s.ilu := rfl
@[simp] theorem updMge_lnk (s : State) (f : Mge → Mge) : (updMge s f).lnk = s.lnk := rfl
@[simp] theorem updMge_mdc (s : State) (f : Mge → Mge) : (updMge s f).mdc = s.mdc := rfl
@[simp] theorem updMge_lst (s : State) (f : Mge → Mge) : (updMge s f).lst = s.lst := rfl
@[simp] theorem updMge_freeIndex (s : State) (f : Mge → Mge) : (updMge s f).freeIndex = s.freeIndex := rfl
@[simp] theorem updMge_pending (s : State) (f : Mge → Mge) : (updMge s f).pending = s.pending := rfl

/-! ### updLines -/

@[simp] theorem updLines_now (s : State) (f : Lines → Lines) : (updLines s f).now = s.now := rfl
@[simp] theorem updLines_trk (s : State) (f : Lines → Lines) : (updLines s f).trk = s.trk := rfl
@[simp] theorem updLines_tbs (s : State) (f : Lines → Lines) : (updLines s f).tbs = s.tbs := rfl
@[simp] theorem updLines_flx (s : State) (f : Lines → Lines) : (updLines s f).flx = s.flx := rfl
@[simp] theorem updLines_lpu (s : State) (f : Lines → Lines) : (updLines s f).lpu = s.lpu := rfl
@[simp] theorem updLines_fal (s : State) (f : Lines → Lines) : (updLines s f).fal = s.fal := rfl
@[simp] theorem updLines_pot (s : State) (f : Lines → Lines) : (updLines s f).pot = s.pot := rfl
@[simp] theorem updLines_exu (s : State) (f : Lines → Lines) : (updLines s f).exu = s.exu := rfl
@[simp] theorem updLines_ilu (s : State) (f : Lines → Lines) : (updLines s f).ilu = s.ilu := rfl
@[simp] theorem updLines_lnk (s : State) (f : Lines → Lines) : (updLines s f).lnk = s.lnk := rfl
@[simp] theorem updLines_mge (s : State) (f : Lines → Lines) : (updLines s f).mge = s.mge := rfl
@[simp] theorem updLines_mdc (s : State) (f : Lines → Lines) : (updLines s f).mdc = s.mdc := rfl
@[simp] theorem updLines_lst (s : State) (f : Lines → Lines) : (updLines s f).lst = s.lst := rfl
@[simp] theorem updLines_freeIndex (s : State) (f : Lines → Lines) : (updLines s f).freeIndex = s.freeIndex := rfl
@[simp] theorem updLines_pending (s : State) (f : Lines → Lines) : (updLines s f).pending = s.pending := rfl

/-! ### State.withPending -/

@[simp] theorem withPending_lines (s : State) (l : List Instr) : (State.withPending s l).lines = s.lines := rfl
@[simp] theorem withPending_now (s : State) (l : List Instr) : (State.withPending s l).now = s.now := rfl
@[simp] theorem withPending_trk (s : State) (l : List Instr) : (State.withPending s l).trk = s.trk := rfl
@[simp] theorem withPending_tbs (s : State) (l : List Instr) : (State.withPending s l).tbs = s.tbs := rfl
@[simp] theorem withPending_flx (s : State) (l : List Instr) : (State.withPending s l).flx = s.flx := rfl
@[simp] theorem withPending_lpu (s : State) (l : List Instr) : (State.withPending s l).lpu = s.lpu := rfl
@[simp] theorem withPending_fal (s : State) (l : List Instr) : (State.withPending s l).fal = s.fal := rfl
@[simp] theorem withPending_pot (s : State) (l : List Instr) : (State.withPending s l).pot = s.pot := rfl
@[simp] theorem withPending_exu (s : State) (l : List Instr) : (State.withPending s l).exu = s.exu := rfl
@[simp] theorem withPending_ilu (s : State) (l : List Instr) : (State.withPending s l).ilu = s.ilu := rfl
@[simp] theorem withPending_lnk (s : State) (l : List Instr) : (State.withPending s l).lnk = s.lnk := rfl
@[simp] theorem withPending_mge (s : State) (l : List Instr) : (State.withPending s l).mge = s.mge := rfl
@[simp] theorem withPending_mdc (s : State) (l : List Instr) : (State.withPending s l).mdc = s.mdc := rfl
@[simp] theorem withPending_lst (s : State) (l : List Instr) : (State.withPending s l).lst = s.lst := rfl
@[simp] theorem withPending_freeIndex (s : State) (l : List Instr) : (State.withPending s l).freeIndex = s.freeIndex := rfl

/-! ### setPump -/

@[simp] theorem setPump_lines (s : State) (p : Pump) (x : PumpState) : (setPump s p x).lines = s.lines := by
  cases p <;> rfl
@[simp] theorem setPump_now (s : State) (p : Pump) (x : PumpState) : (setPump s p x).now = s.now := by
  cases p <;> rfl
@[simp] theorem setPump_trk (s : State) (p : Pump) (x : PumpState) : (setPump s p x).trk = s.trk := by
  cases p <;> rfl
@[simp] theorem setPump_tbs (s : State) (p : Pump) (x : PumpState) : (setPump s p x).tbs = s.tbs := by
  cases p <;> rfl
@[simp] theorem setPump_flx (s : State) (p : Pump) (x : PumpState) : (setPump s p x).flx = s.flx := by
  cases p <;> rfl
@[simp] theorem setPump_lpu (s : State) (p : Pump) (x : PumpState) : (setPump s p x).lpu = s.lpu := by
  cases p <;> rfl
@[simp] theorem setPump_fal (s : State) (p : Pump) (x : PumpState) : (setPump s p x).fal = s.fal := by
  cases p <;> rfl
@[simp] theorem setPump_exu (s : State) (p : Pump) (x : PumpState) : (setPump s p x).exu = s.exu := by
  cases p <;> rfl
@[simp] theorem setPump_ilu (s : State) (p : Pump) (x : PumpState) : (setPump s p x).ilu = s.ilu := by
  cases p <;> rfl
@[simp] theorem setPump_lnk (s : State) (p : Pump) (x : PumpState) : (setPump s p x).lnk = s.lnk := by
  cases p <;> rfl
@[simp] theorem setPump_mge (s : State) (p : Pump) (x : PumpState) : (setPump s p x).mge = s.mge := by
  cases p <;> rfl
@[simp] theorem setPump_mdc (s : State) (p : Pump) (x : PumpState) : (setPump s p x).mdc = s.mdc := by
  cases p <;> rfl
@[simp] theorem setPump_lst (s : State) (p : Pump) (x : PumpState) : (setPump s p x).lst = s.lst := by
  cases p <;> rfl
@[simp] theorem setPump_freeIndex (s : State) (p : Pump) (x : PumpState) : (setPump s p x).freeIndex = s.freeIndex := by
  cases p <;> rfl
@[simp] theorem setPump_pending (s : State) (p : Pump) (x : PumpState) : (setPump s p x).pending = s.pending := by
  cases p <;> rfl

/-! ### What the updates change -/

@[simp] theorem withPending_pending (s : State) (l : List Instr) : (s.withPending l).pending = l := rfl
@[simp] theorem updMge_mge (s : State) (f : Mge → Mge) : (updMge s f).mge = f s.mge := rfl
@[simp] theorem updLines_lines (s : State) (f : Lines → Lines) : (updLines s f).lines = f s.lines := rfl

@[simp] theorem updSlot_same (s : State) (k : SlotId) (f : AlarmSlot → AlarmSlot) :
    (updSlot s k f).ilu.slots[k.val] = f s.ilu.slots[k.val] := upd_same _ _ _

theorem updSlot_other (s : State) (k j : SlotId) (f : AlarmSlot → AlarmSlot) (h : j ≠ k) :
    (updSlot s k f).ilu.slots[j.val] = s.ilu.slots[j.val] := upd_other _ _ _ _ h

@[simp] theorem getLoop_updLoop (s : State) (l : LoopId) (f : Loop → Loop) :
    getLoop (updLoop s l f) l = f (getLoop s l) := upd_same _ _ _

theorem getLoop_updLoop_other (s : State) (l j : LoopId) (f : Loop → Loop) (h : j ≠ l) :
    getLoop (updLoop s l f) j = getLoop s j := upd_other _ _ _ _ h

@[simp] theorem getHood_updHood (s : State) (h : HoodId) (f : Hood → Hood) :
    getHood (updHood s h f) h = f (getHood s h) := upd_same _ _ _

theorem getHood_updHood_other (s : State) (h j : HoodId) (f : Hood → Hood) (ne : j ≠ h) :
    getHood (updHood s h f) j = getHood s j := upd_other _ _ _ _ ne

@[simp] theorem getPhase_updPhase (s : State) (p : PhaseId) (f : Phase → Phase) :
    getPhase (updPhase s p f) p = f (getPhase s p) := upd_same _ _ _

theorem getPhase_updPhase_other (s : State) (p j : PhaseId) (f : Phase → Phase) (h : j ≠ p) :
    getPhase (updPhase s p f) j = getPhase s j := upd_other _ _ _ _ h

@[simp] theorem getNozzle_updNozzle (s : State) (n : NozzleId) (f : Nozzle → Nozzle) :
    getNozzle (updNozzle s n f) n = f (getNozzle s n) := upd_same _ _ _

theorem getNozzle_updNozzle_other (s : State) (n j : NozzleId) (f : Nozzle → Nozzle) (h : j ≠ n) :
    getNozzle (updNozzle s n f) j = getNozzle s j := upd_other _ _ _ _ h

@[simp] theorem signal_updSignal (s : State) (i : SignalId) (f : Signal → Signal) :
    signal (updSignal s i f) i = f (signal s i) := upd_same _ _ _

theorem signal_updSignal_other (s : State) (i j : SignalId) (f : Signal → Signal) (h : j ≠ i) :
    signal (updSignal s i f) j = signal s j := upd_other _ _ _ _ h

/-! ### The alarm slots (R151) -/

theorem raiseSlot_live (s : State) (k : SlotId) (d : Int) : (raiseSlot s k d).ilu.slots[k.val].live = true := by
  simp only [raiseSlot, updSlot_same, AlarmSlot.raise]
  split <;> simp_all

theorem raiseSlot_eq (s : State) (k : SlotId) (d : Int) (h : s.ilu.slots[k.val].live = false) :
    (raiseSlot s k d).ilu.slots[k.val] = ⟨true, true, d⟩ := by
  simp [raiseSlot, AlarmSlot.raise, h]

@[simp] theorem lowerSlot_live (s : State) (k : SlotId) : (lowerSlot s k).ilu.slots[k.val].live = false := by
  simp [lowerSlot, AlarmSlot.lower]

@[simp] theorem latchSlot_same (s : State) (k : SlotId) (d : Int) :
    (latchSlot s k d).ilu.slots[k.val] = ⟨s.ilu.slots[k.val].live, true, d⟩ := by
  simp [latchSlot, AlarmSlot.latch]

@[simp] theorem raiseSlot_lines (s : State) (k : SlotId) (d : Int) : (raiseSlot s k d).lines = s.lines := rfl
@[simp] theorem raiseSlot_now (s : State) (k : SlotId) (d : Int) : (raiseSlot s k d).now = s.now := rfl
@[simp] theorem raiseSlot_trk (s : State) (k : SlotId) (d : Int) : (raiseSlot s k d).trk = s.trk := rfl
@[simp] theorem raiseSlot_tbs (s : State) (k : SlotId) (d : Int) : (raiseSlot s k d).tbs = s.tbs := rfl
@[simp] theorem raiseSlot_flx (s : State) (k : SlotId) (d : Int) : (raiseSlot s k d).flx = s.flx := rfl
@[simp] theorem raiseSlot_lpu (s : State) (k : SlotId) (d : Int) : (raiseSlot s k d).lpu = s.lpu := rfl
@[simp] theorem raiseSlot_fal (s : State) (k : SlotId) (d : Int) : (raiseSlot s k d).fal = s.fal := rfl
@[simp] theorem raiseSlot_pot (s : State) (k : SlotId) (d : Int) : (raiseSlot s k d).pot = s.pot := rfl
@[simp] theorem raiseSlot_exu (s : State) (k : SlotId) (d : Int) : (raiseSlot s k d).exu = s.exu := rfl
@[simp] theorem raiseSlot_lnk (s : State) (k : SlotId) (d : Int) : (raiseSlot s k d).lnk = s.lnk := rfl
@[simp] theorem raiseSlot_mge (s : State) (k : SlotId) (d : Int) : (raiseSlot s k d).mge = s.mge := rfl
@[simp] theorem raiseSlot_mdc (s : State) (k : SlotId) (d : Int) : (raiseSlot s k d).mdc = s.mdc := rfl
@[simp] theorem raiseSlot_lst (s : State) (k : SlotId) (d : Int) : (raiseSlot s k d).lst = s.lst := rfl
@[simp] theorem raiseSlot_freeIndex (s : State) (k : SlotId) (d : Int) : (raiseSlot s k d).freeIndex = s.freeIndex := rfl
@[simp] theorem raiseSlot_pending (s : State) (k : SlotId) (d : Int) : (raiseSlot s k d).pending = s.pending := rfl

@[simp] theorem lowerSlot_lines (s : State) (k : SlotId) : (lowerSlot s k).lines = s.lines := rfl
@[simp] theorem lowerSlot_now (s : State) (k : SlotId) : (lowerSlot s k).now = s.now := rfl
@[simp] theorem lowerSlot_trk (s : State) (k : SlotId) : (lowerSlot s k).trk = s.trk := rfl
@[simp] theorem lowerSlot_tbs (s : State) (k : SlotId) : (lowerSlot s k).tbs = s.tbs := rfl
@[simp] theorem lowerSlot_flx (s : State) (k : SlotId) : (lowerSlot s k).flx = s.flx := rfl
@[simp] theorem lowerSlot_lpu (s : State) (k : SlotId) : (lowerSlot s k).lpu = s.lpu := rfl
@[simp] theorem lowerSlot_fal (s : State) (k : SlotId) : (lowerSlot s k).fal = s.fal := rfl
@[simp] theorem lowerSlot_pot (s : State) (k : SlotId) : (lowerSlot s k).pot = s.pot := rfl
@[simp] theorem lowerSlot_exu (s : State) (k : SlotId) : (lowerSlot s k).exu = s.exu := rfl
@[simp] theorem lowerSlot_lnk (s : State) (k : SlotId) : (lowerSlot s k).lnk = s.lnk := rfl
@[simp] theorem lowerSlot_mge (s : State) (k : SlotId) : (lowerSlot s k).mge = s.mge := rfl
@[simp] theorem lowerSlot_mdc (s : State) (k : SlotId) : (lowerSlot s k).mdc = s.mdc := rfl
@[simp] theorem lowerSlot_lst (s : State) (k : SlotId) : (lowerSlot s k).lst = s.lst := rfl
@[simp] theorem lowerSlot_freeIndex (s : State) (k : SlotId) : (lowerSlot s k).freeIndex = s.freeIndex := rfl
@[simp] theorem lowerSlot_pending (s : State) (k : SlotId) : (lowerSlot s k).pending = s.pending := rfl

@[simp] theorem latchSlot_lines (s : State) (k : SlotId) (d : Int) : (latchSlot s k d).lines = s.lines := rfl
@[simp] theorem latchSlot_now (s : State) (k : SlotId) (d : Int) : (latchSlot s k d).now = s.now := rfl
@[simp] theorem latchSlot_trk (s : State) (k : SlotId) (d : Int) : (latchSlot s k d).trk = s.trk := rfl
@[simp] theorem latchSlot_tbs (s : State) (k : SlotId) (d : Int) : (latchSlot s k d).tbs = s.tbs := rfl
@[simp] theorem latchSlot_flx (s : State) (k : SlotId) (d : Int) : (latchSlot s k d).flx = s.flx := rfl
@[simp] theorem latchSlot_lpu (s : State) (k : SlotId) (d : Int) : (latchSlot s k d).lpu = s.lpu := rfl
@[simp] theorem latchSlot_fal (s : State) (k : SlotId) (d : Int) : (latchSlot s k d).fal = s.fal := rfl
@[simp] theorem latchSlot_pot (s : State) (k : SlotId) (d : Int) : (latchSlot s k d).pot = s.pot := rfl
@[simp] theorem latchSlot_exu (s : State) (k : SlotId) (d : Int) : (latchSlot s k d).exu = s.exu := rfl
@[simp] theorem latchSlot_lnk (s : State) (k : SlotId) (d : Int) : (latchSlot s k d).lnk = s.lnk := rfl
@[simp] theorem latchSlot_mge (s : State) (k : SlotId) (d : Int) : (latchSlot s k d).mge = s.mge := rfl
@[simp] theorem latchSlot_mdc (s : State) (k : SlotId) (d : Int) : (latchSlot s k d).mdc = s.mdc := rfl
@[simp] theorem latchSlot_lst (s : State) (k : SlotId) (d : Int) : (latchSlot s k d).lst = s.lst := rfl
@[simp] theorem latchSlot_freeIndex (s : State) (k : SlotId) (d : Int) : (latchSlot s k d).freeIndex = s.freeIndex := rfl
@[simp] theorem latchSlot_pending (s : State) (k : SlotId) (d : Int) : (latchSlot s k d).pending = s.pending := rfl

@[simp] theorem judgeSlot_lines (s : State) (k : SlotId) (c : Bool) (d : Int) :
    (judgeSlot s k c d).lines = s.lines := by
  unfold judgeSlot; split <;> rfl
@[simp] theorem judgeSlot_now (s : State) (k : SlotId) (c : Bool) (d : Int) :
    (judgeSlot s k c d).now = s.now := by
  unfold judgeSlot; split <;> rfl
@[simp] theorem judgeSlot_trk (s : State) (k : SlotId) (c : Bool) (d : Int) :
    (judgeSlot s k c d).trk = s.trk := by
  unfold judgeSlot; split <;> rfl
@[simp] theorem judgeSlot_tbs (s : State) (k : SlotId) (c : Bool) (d : Int) :
    (judgeSlot s k c d).tbs = s.tbs := by
  unfold judgeSlot; split <;> rfl
@[simp] theorem judgeSlot_flx (s : State) (k : SlotId) (c : Bool) (d : Int) :
    (judgeSlot s k c d).flx = s.flx := by
  unfold judgeSlot; split <;> rfl
@[simp] theorem judgeSlot_lpu (s : State) (k : SlotId) (c : Bool) (d : Int) :
    (judgeSlot s k c d).lpu = s.lpu := by
  unfold judgeSlot; split <;> rfl
@[simp] theorem judgeSlot_fal (s : State) (k : SlotId) (c : Bool) (d : Int) :
    (judgeSlot s k c d).fal = s.fal := by
  unfold judgeSlot; split <;> rfl
@[simp] theorem judgeSlot_pot (s : State) (k : SlotId) (c : Bool) (d : Int) :
    (judgeSlot s k c d).pot = s.pot := by
  unfold judgeSlot; split <;> rfl
@[simp] theorem judgeSlot_exu (s : State) (k : SlotId) (c : Bool) (d : Int) :
    (judgeSlot s k c d).exu = s.exu := by
  unfold judgeSlot; split <;> rfl
@[simp] theorem judgeSlot_lnk (s : State) (k : SlotId) (c : Bool) (d : Int) :
    (judgeSlot s k c d).lnk = s.lnk := by
  unfold judgeSlot; split <;> rfl
@[simp] theorem judgeSlot_mge (s : State) (k : SlotId) (c : Bool) (d : Int) :
    (judgeSlot s k c d).mge = s.mge := by
  unfold judgeSlot; split <;> rfl
@[simp] theorem judgeSlot_mdc (s : State) (k : SlotId) (c : Bool) (d : Int) :
    (judgeSlot s k c d).mdc = s.mdc := by
  unfold judgeSlot; split <;> rfl
@[simp] theorem judgeSlot_lst (s : State) (k : SlotId) (c : Bool) (d : Int) :
    (judgeSlot s k c d).lst = s.lst := by
  unfold judgeSlot; split <;> rfl
@[simp] theorem judgeSlot_freeIndex (s : State) (k : SlotId) (c : Bool) (d : Int) :
    (judgeSlot s k c d).freeIndex = s.freeIndex := by
  unfold judgeSlot; split <;> rfl
@[simp] theorem judgeSlot_pending (s : State) (k : SlotId) (c : Bool) (d : Int) :
    (judgeSlot s k c d).pending = s.pending := by
  unfold judgeSlot; split <;> rfl

/-- A slot raised anew is live and latched with the new detail, whatever it was (R151). -/
@[simp] theorem raiseSlotAnew_same (s : State) (k : SlotId) (d : Int) :
    (raiseSlotAnew s k d).ilu.slots[k.val] = ⟨true, true, d⟩ := by
  simp [raiseSlotAnew, AlarmSlot.raiseAnew]

@[simp] theorem raiseSlotAnew_lines (s : State) (k : SlotId) (d : Int) : (raiseSlotAnew s k d).lines = s.lines := rfl
@[simp] theorem raiseSlotAnew_now (s : State) (k : SlotId) (d : Int) : (raiseSlotAnew s k d).now = s.now := rfl
@[simp] theorem raiseSlotAnew_trk (s : State) (k : SlotId) (d : Int) : (raiseSlotAnew s k d).trk = s.trk := rfl
@[simp] theorem raiseSlotAnew_tbs (s : State) (k : SlotId) (d : Int) : (raiseSlotAnew s k d).tbs = s.tbs := rfl
@[simp] theorem raiseSlotAnew_flx (s : State) (k : SlotId) (d : Int) : (raiseSlotAnew s k d).flx = s.flx := rfl
@[simp] theorem raiseSlotAnew_lpu (s : State) (k : SlotId) (d : Int) : (raiseSlotAnew s k d).lpu = s.lpu := rfl
@[simp] theorem raiseSlotAnew_fal (s : State) (k : SlotId) (d : Int) : (raiseSlotAnew s k d).fal = s.fal := rfl
@[simp] theorem raiseSlotAnew_pot (s : State) (k : SlotId) (d : Int) : (raiseSlotAnew s k d).pot = s.pot := rfl
@[simp] theorem raiseSlotAnew_exu (s : State) (k : SlotId) (d : Int) : (raiseSlotAnew s k d).exu = s.exu := rfl
@[simp] theorem raiseSlotAnew_lnk (s : State) (k : SlotId) (d : Int) : (raiseSlotAnew s k d).lnk = s.lnk := rfl
@[simp] theorem raiseSlotAnew_mge (s : State) (k : SlotId) (d : Int) : (raiseSlotAnew s k d).mge = s.mge := rfl
@[simp] theorem raiseSlotAnew_mdc (s : State) (k : SlotId) (d : Int) : (raiseSlotAnew s k d).mdc = s.mdc := rfl
@[simp] theorem raiseSlotAnew_lst (s : State) (k : SlotId) (d : Int) : (raiseSlotAnew s k d).lst = s.lst := rfl
@[simp] theorem raiseSlotAnew_freeIndex (s : State) (k : SlotId) (d : Int) : (raiseSlotAnew s k d).freeIndex = s.freeIndex := rfl
@[simp] theorem raiseSlotAnew_pending (s : State) (k : SlotId) (d : Int) : (raiseSlotAnew s k d).pending = s.pending := rfl

/-! ### The waiting saves (R196) -/

@[simp] theorem putWaiting_lines (s : State) (h : HoodId) (o : Option Nat) : (putWaiting s h o).lines = s.lines := rfl
@[simp] theorem putWaiting_now (s : State) (h : HoodId) (o : Option Nat) : (putWaiting s h o).now = s.now := rfl
@[simp] theorem putWaiting_trk (s : State) (h : HoodId) (o : Option Nat) : (putWaiting s h o).trk = s.trk := rfl
@[simp] theorem putWaiting_tbs (s : State) (h : HoodId) (o : Option Nat) : (putWaiting s h o).tbs = s.tbs := rfl
@[simp] theorem putWaiting_flx (s : State) (h : HoodId) (o : Option Nat) : (putWaiting s h o).flx = s.flx := rfl
@[simp] theorem putWaiting_lpu (s : State) (h : HoodId) (o : Option Nat) : (putWaiting s h o).lpu = s.lpu := rfl
@[simp] theorem putWaiting_fal (s : State) (h : HoodId) (o : Option Nat) : (putWaiting s h o).fal = s.fal := rfl
@[simp] theorem putWaiting_pot (s : State) (h : HoodId) (o : Option Nat) : (putWaiting s h o).pot = s.pot := rfl
@[simp] theorem putWaiting_exu (s : State) (h : HoodId) (o : Option Nat) : (putWaiting s h o).exu = s.exu := rfl
@[simp] theorem putWaiting_lnk (s : State) (h : HoodId) (o : Option Nat) : (putWaiting s h o).lnk = s.lnk := rfl
@[simp] theorem putWaiting_mge (s : State) (h : HoodId) (o : Option Nat) : (putWaiting s h o).mge = s.mge := rfl
@[simp] theorem putWaiting_mdc (s : State) (h : HoodId) (o : Option Nat) : (putWaiting s h o).mdc = s.mdc := rfl
@[simp] theorem putWaiting_freeIndex (s : State) (h : HoodId) (o : Option Nat) : (putWaiting s h o).freeIndex = s.freeIndex := rfl
@[simp] theorem putWaiting_pending (s : State) (h : HoodId) (o : Option Nat) : (putWaiting s h o).pending = s.pending := rfl
@[simp] theorem putWaiting_ilu (s : State) (h : HoodId) (o : Option Nat) : (putWaiting s h o).ilu = s.ilu := rfl
@[simp] theorem putWaiting_lst_storage (s : State) (h : HoodId) (o : Option Nat) : (putWaiting s h o).lst.storage = s.lst.storage := rfl
@[simp] theorem putWaiting_lst_limits (s : State) (h : HoodId) (o : Option Nat) : (putWaiting s h o).lst.limits = s.lst.limits := rfl
@[simp] theorem putWaiting_lst_block (s : State) (h : HoodId) (o : Option Nat) : (putWaiting s h o).lst.block = s.lst.block := rfl
@[simp] theorem putWaiting_lst_detail (s : State) (h : HoodId) (o : Option Nat) : (putWaiting s h o).lst.detail = s.lst.detail := rfl
@[simp] theorem putWaiting_lst_op (s : State) (h : HoodId) (o : Option Nat) : (putWaiting s h o).lst.op = s.lst.op := rfl
@[simp] theorem putWaiting_same (s : State) (h : HoodId) (o : Option Nat) :
    (putWaiting s h o).lst.waiting[h.val] = o := by simp [putWaiting]

/-! ### The PV of loop P (R72) -/

@[simp] theorem putPotPv_lines (s : State) (pv : Option Int) (x : PvSource) : (putPotPv s pv x).lines = s.lines := rfl
@[simp] theorem putPotPv_now (s : State) (pv : Option Int) (x : PvSource) : (putPotPv s pv x).now = s.now := rfl
@[simp] theorem putPotPv_trk (s : State) (pv : Option Int) (x : PvSource) : (putPotPv s pv x).trk = s.trk := rfl
@[simp] theorem putPotPv_tbs (s : State) (pv : Option Int) (x : PvSource) : (putPotPv s pv x).tbs = s.tbs := rfl
@[simp] theorem putPotPv_flx (s : State) (pv : Option Int) (x : PvSource) : (putPotPv s pv x).flx = s.flx := rfl
@[simp] theorem putPotPv_fal (s : State) (pv : Option Int) (x : PvSource) : (putPotPv s pv x).fal = s.fal := rfl
@[simp] theorem putPotPv_pot (s : State) (pv : Option Int) (x : PvSource) : (putPotPv s pv x).pot = s.pot := rfl
@[simp] theorem putPotPv_exu (s : State) (pv : Option Int) (x : PvSource) : (putPotPv s pv x).exu = s.exu := rfl
@[simp] theorem putPotPv_lnk (s : State) (pv : Option Int) (x : PvSource) : (putPotPv s pv x).lnk = s.lnk := rfl
@[simp] theorem putPotPv_mge (s : State) (pv : Option Int) (x : PvSource) : (putPotPv s pv x).mge = s.mge := rfl
@[simp] theorem putPotPv_mdc (s : State) (pv : Option Int) (x : PvSource) : (putPotPv s pv x).mdc = s.mdc := rfl
@[simp] theorem putPotPv_lst (s : State) (pv : Option Int) (x : PvSource) : (putPotPv s pv x).lst = s.lst := rfl
@[simp] theorem putPotPv_freeIndex (s : State) (pv : Option Int) (x : PvSource) : (putPotPv s pv x).freeIndex = s.freeIndex := rfl
@[simp] theorem putPotPv_pending (s : State) (pv : Option Int) (x : PvSource) : (putPotPv s pv x).pending = s.pending := rfl
@[simp] theorem putPotPv_ilu (s : State) (pv : Option Int) (x : PvSource) : (putPotPv s pv x).ilu = s.ilu := rfl
@[simp] theorem putPotPv_potSource (s : State) (pv : Option Int) (x : PvSource) :
    (putPotPv s pv x).lpu.potSource = x := rfl
@[simp] theorem putPotPv_loopP (s : State) (pv : Option Int) (x : PvSource) :
    getLoop (putPotPv s pv x) loopP = { getLoop s loopP with pv := pv } := by
  simp [putPotPv, getLoop, updLoop, upd]

end Sys2Proof.Machine
end

