-- ==== Sys2Proof/Laws/Settle.lean ====
section
/-! SUPPORT. What `settle` and every judgement in it leave as it was: `State.core` forgets exactly what
they may change, and each of them keeps it. -/

namespace Sys2Proof.Machine

/-! ### What is kept -/

/-- The slots that judgements inside `settle` raise or lower. -/
def judgedSlot (k : Nat) : Bool :=
  (decide (8 ≤ k) && decide (k ≤ 14)) || k == 40 || k == 41 || k == 43 || k == 52 || k == 53 || k == 55 ||
    k == 60

/-- A loop without its setpoint, band and settling. -/
def Loop.core (x : Loop) : Loop :=
  { x with setpoint := none, controller := none, ff := 0, inBand := false, settleFrom := none,
           settled := false }

/-- A pump without its target and fault timer. -/
def PumpState.core (x : PumpState) : PumpState := { x with target := 0, faultFrom := none }

/-- A nozzle's fault flag alone. -/
def Nozzle.core (x : Nozzle) : Nozzle := ⟨none, x.faulted, none, none⟩

/-- A hood's airflow and lockout timer alone. -/
def Hood.core (x : Hood) : Hood :=
  { Hood.afterReset .full with airflow := x.airflow, lockoutFrom := x.lockoutFrom }

/-- The slots that no judgement inside `settle` touches. -/
def coreSlots (v : Vector AlarmSlot 64) : Vector AlarmSlot 64 :=
  v.mapFinIdx fun k x _ => if judgedSlot k then AlarmSlot.clear else x

/-- What `settle` keeps. -/
def State.core (s : State) : State :=
  { s with
    flx := { Flx.afterReset with nozzles := s.flx.nozzles.map Nozzle.core }
    lpu := { s.lpu with loops := s.lpu.loops.map Loop.core }
    fal := { s.fal with gates := Vector.replicate 16 ⟨0, false⟩ }
    pot := { s.pot with chip := s.pot.chip.core, main := s.pot.main.core }
    exu := ⟨s.exu.hoods.map Hood.core, s.exu.lockout⟩
    ilu := { Ilu.afterReset none false with slots := coreSlots s.ilu.slots }
    lst := { s.lst with op := none, waiting := Vector.replicate 2 none } }

/-! ### Collections -/

theorem map_upd {α β : Type} {n : Nat} (v : Vector α n) (i : Fin n) (f : α → α) (g : α → β)
    (h : ∀ x, g (f x) = g x) : (upd v i f).map g = v.map g := by
  apply Vector.ext
  intro j hj
  by_cases e : i.val = j
  · subst e; simp [upd, h]
  · simp [upd, e]

theorem coreSlots_upd (v : Vector AlarmSlot 64) (k : SlotId) (f : AlarmSlot → AlarmSlot)
    (h : judgedSlot k.val = true) : coreSlots (upd v k f) = coreSlots v := by
  apply Vector.ext
  intro j hj
  by_cases e : k.val = j
  · subst e; simp [coreSlots, h]
  · simp [coreSlots, upd, e]

theorem foldl_core {α : Type} (f : State → α → State) (h : ∀ s a, (f s a).core = s.core) (l : List α)
    (s : State) : (l.foldl f s).core = s.core := by
  induction l generalizing s with
  | nil => rfl
  | cons a l ih => simp [ih, h]

theorem repeat_core (f : State → State) (h : ∀ s, (f s).core = s.core) (n : Nat) (s : State) :
    (Nat.repeat f n s).core = s.core := by
  induction n with
  | zero => rfl
  | succ n ih => simp [Nat.repeat, h, ih]

/-! ### Named updates -/

theorem updLoop_core (s : State) (l : LoopId) (f : Loop → Loop) (h : ∀ x, (f x).core = x.core) :
    (updLoop s l f).core = s.core := by
  simp [State.core, updLoop, map_upd _ _ _ _ h]

theorem updHood_core (s : State) (i : HoodId) (f : Hood → Hood) (h : ∀ x, (f x).core = x.core) :
    (updHood s i f).core = s.core := by
  simp [State.core, updHood, map_upd _ _ _ _ h]

theorem updNozzle_core (s : State) (n : NozzleId) (f : Nozzle → Nozzle)
    (h : ∀ x, (f x).core = x.core) : (updNozzle s n f).core = s.core := by
  simp [State.core, updNozzle, map_upd _ _ _ _ h]

theorem setPump_core (s : State) (p : Pump) (x : PumpState) (h : x.core = (getPump s p).core) :
    (setPump s p x).core = s.core := by
  cases p <;> simp [State.core, setPump, getPump] at * <;> simp [h]

theorem updSlot_core (s : State) (k : SlotId) (f : AlarmSlot → AlarmSlot)
    (h : judgedSlot k.val = true) : (updSlot s k f).core = s.core := by
  simp [State.core, updSlot, coreSlots_upd _ _ _ h]

theorem judgeSlot_core (s : State) (k : SlotId) (c : Bool) (d : Int) (h : judgedSlot k.val = true) :
    (judgeSlot s k c d).core = s.core := by
  unfold judgeSlot; split <;> exact updSlot_core _ _ _ h

theorem lowerSlot_core (s : State) (k : SlotId) (h : judgedSlot k.val = true) :
    (lowerSlot s k).core = s.core := updSlot_core _ _ _ h

/-! ### LPU -/

@[simp] theorem compose_core (s : State) (l : LoopId) : (compose s l).core = s.core := by
  unfold compose; split <;> exact updLoop_core _ _ _ fun _ => rfl

@[simp] theorem judgeBand_core (s : State) (l : LoopId) : (judgeBand s l).core = s.core := by
  apply updLoop_core; intro x; split
  · split <;> rfl
  · rfl

theorem sensor_judged (l : LoopId) : judgedSlot (slotSensorLost l).val = true := by
  revert l; decide

@[simp] theorem judgeSensor_core (s : State) (l : LoopId) : (judgeSensor s l).core = s.core :=
  judgeSlot_core _ _ _ _ (sensor_judged l)

@[simp] theorem judgeLoops_core (s : State) : (judgeLoops s).core = s.core :=
  foldl_core _ (fun _ _ => by simp) _ _

/-! ### POT -/

@[simp] theorem judgeTargets_core (s : State) : (judgeTargets s).core = s.core := by
  simp [judgeTargets, State.core, PumpState.core]

theorem pump_judged (p : Pump) : judgedSlot (slotPumpFault p).val = true := by cases p <;> decide

@[simp] theorem judgePump_core (s : State) (p : Pump) : (judgePump s p).core = s.core := by
  unfold judgePump; simp only
  split
  · split
    · rfl
    · exact setPump_core _ _ _ rfl
  · rw [lowerSlot_core _ _ (pump_judged p)]; exact setPump_core _ _ _ rfl

@[simp] theorem judgePot_core (s : State) : (judgePot s).core = s.core := by simp [judgePot]

/-! ### FLX -/

/-- A change of FLX that leaves the fault flags. -/
theorem flx_core (s : State) (x : Flx) (h : x.nozzles.map Nozzle.core = s.flx.nozzles.map Nozzle.core) :
    ({ s with flx := x } : State).core = s.core := by simp [State.core, h]

@[simp] theorem openValve_core (s : State) (n : NozzleId) (o : ValveOwner) :
    (openValve s n o).core = s.core := updNozzle_core _ _ _ fun _ => rfl

@[simp] theorem closeValve_core (s : State) (n : NozzleId) : (closeValve s n).core = s.core := by
  unfold closeValve; split
  · rfl
  · exact (flx_core _ _ rfl).trans (updNozzle_core _ _ _ fun _ => rfl)

@[simp] theorem closeValves_core (s : State) (p : Interval → Bool) : (closeValves s p).core = s.core := by
  apply foldl_core; intro s n; split
  · split <;> simp
  · rfl

@[simp] theorem endTest_core (s : State) (c : TestEnd) : (endTest s c).core = s.core := by
  unfold endTest; split
  · rfl
  · split
    · exact flx_core _ _ rfl
    · exact (flx_core _ _ rfl).trans (closeValve_core _ _)

@[simp] theorem cutAccounts_core (s : State) (p : Account → Bool) : (cutAccounts s p).core = s.core :=
  flx_core _ _ rfl

@[simp] theorem inhibitNow_core (s : State) : (inhibitNow s).core = s.core := by simp [inhibitNow]

@[simp] theorem shutUnwanted_core (s : State) (n : NozzleId) : (shutUnwanted s n).core = s.core := by
  unfold shutUnwanted; split
  · split <;> simp
  · rfl

@[simp] theorem openWanted_core (s : State) (n : NozzleId) : (openWanted s n).core = s.core := by
  unfold openWanted; split
  · split <;> simp
  · rfl

@[simp] theorem reevaluateNozzle_core (s : State) (n : NozzleId) : (reevaluateNozzle s n).core = s.core := by
  simp [reevaluateNozzle]

@[simp] theorem reevaluateValves_core (s : State) : (reevaluateValves s).core = s.core :=
  foldl_core _ (fun _ _ => by simp) _ _

@[simp] theorem markDoubt_core (s : State) : (markDoubt s).core = s.core := by
  unfold markDoubt; split
  · apply flx_core
    apply Vector.ext; intro i hi; simp [Nozzle.core]
  · rfl

@[simp] theorem expireDwell_core (s : State) : (expireDwell s).core = s.core := by
  unfold expireDwell; split
  · exact flx_core _ _ rfl
  · rfl

@[simp] theorem judgeFluxing_core (s : State) : (judgeFluxing s).core = s.core := flx_core _ _ rfl

@[simp] theorem judgePressure_core (s : State) : (judgePressure s).core = s.core := by
  unfold judgePressure; split
  · exact judgeSlot_core _ _ _ _ (by decide)
  · exact lowerSlot_core _ _ (by decide)

@[simp] theorem judgeFlux_core (s : State) : (judgeFlux s).core = s.core := by simp [judgeFlux]

/-! ### EXU and LST -/

@[simp] theorem setRequirement_core (s : State) (h : HoodId) : (setRequirement s h).core = s.core := by
  unfold setRequirement; split <;> exact updHood_core _ _ _ fun _ => rfl

theorem timeToward_core (now : Time) (b : Bool) (x : Hood) : (x.timeToward now b).core = x.core := by
  unfold Hood.timeToward; split
  · split <;> rfl
  · rfl

@[simp] theorem judgeAirflow_core (s : State) (h : HoodId) : (judgeAirflow s h).core = s.core := by
  apply updHood_core; intro x
  split
  · rfl
  · split
    · split
      · rfl
      · exact timeToward_core _ _ _
    · split
      · exact timeToward_core _ _ _
      · rfl

theorem fan_judged (h : HoodId) : judgedSlot (slotFanStopped h).val = true := by revert h; decide

@[simp] theorem judgeFan_core (s : State) (h : HoodId) : (judgeFan s h).core = s.core :=
  judgeSlot_core _ _ _ _ (fan_judged h)

/-- A change of the operation in flight and the waiting saves. -/
theorem lst_core (s : State) (x : Lst) (h : x.storage = s.lst.storage ∧ x.limits = s.lst.limits ∧
    x.block = s.lst.block ∧ x.detail = s.lst.detail) : ({ s with lst := x } : State).core = s.core := by
  obtain ⟨h1, h2, h3, h4⟩ := h
  simp [State.core, h1, h2, h3, h4]

@[simp] theorem putWaiting_core (s : State) (h : HoodId) (o : Option Nat) :
    (putWaiting s h o).core = s.core := lst_core _ _ ⟨rfl, rfl, rfl, rfl⟩

@[simp] theorem startSave_core (s : State) (b : Block) (w : Vector (Option Nat) 2) :
    (startSave s b w).core = s.core := lst_core _ _ ⟨rfl, rfl, rfl, rfl⟩

@[simp] theorem handSave_core (s : State) (h : HoodId) (n : Nat) : (handSave s h n).core = s.core := by
  unfold handSave; split
  · rfl
  · split
    · simp
    · simp

@[simp] theorem addTenth_core (s : State) (h : HoodId) : (addTenth s h).core = s.core := by
  unfold addTenth
  simp only
  split
  · rw [handSave_core]; exact updHood_core _ _ _ fun _ => rfl
  · exact updHood_core _ _ _ fun _ => rfl

@[simp] theorem accrue_core (s : State) (h : HoodId) : (accrue s h).core = s.core := by
  unfold accrue; simp only
  split
  · rfl
  · rw [repeat_core _ fun _ => addTenth_core _ _]; exact updHood_core _ _ _ fun _ => rfl

@[simp] theorem judgeCounting_core (s : State) (h : HoodId) : (judgeCounting s h).core = s.core := by
  unfold judgeCounting; split
  · exact updHood_core _ _ _ fun _ => rfl
  · exact (updHood_core (accrue s h) h (fun x => { x with runningSince := none }) fun _ => rfl).trans
      (accrue_core _ _)
  · rfl

@[simp] theorem judgeService_core (s : State) : (judgeService s).core = s.core :=
  judgeSlot_core _ _ _ _ (by decide)

@[simp] theorem judgeHood_core (s : State) (h : HoodId) : (judgeHood s h).core = s.core := by
  simp [judgeHood]

@[simp] theorem judgeExtraction_core (s : State) : (judgeExtraction s).core = s.core := by
  simp [judgeExtraction]

/-! ### ILU and the whole -/

/-- A change of ILU's outputs. -/
theorem ilu_core (s : State) (x : Ilu) (h : x.slots = s.ilu.slots) :
    ({ s with ilu := x } : State).core = s.core := by simp [State.core, h]

@[simp] theorem falStopAll_core (s : State) : (falStopAll s).core = s.core := rfl

@[simp] theorem judgePermit_core (s : State) : (judgePermit s).core = s.core := by
  unfold judgePermit; simp only
  split
  · rw [falStopAll_core]; exact ilu_core _ _ rfl
  · exact ilu_core _ _ rfl

@[simp] theorem judgeOutputs_core (s : State) : (judgeOutputs s).core = s.core := ilu_core _ _ rfl

@[simp] theorem judgeAdmission_core (s : State) : (judgeAdmission s).core = s.core := ilu_core _ _ rfl

@[simp] theorem judgeSpeed_core (s : State) : (judgeSpeed s).core = s.core := by
  unfold judgeSpeed; split
  · exact judgeSlot_core _ _ _ _ (by decide)
  · exact lowerSlot_core _ _ (by decide)

@[simp] theorem passStanding_core (s : State) : (passStanding s).core = s.core := by
  unfold passStanding; simp only
  split
  · rw [inhibitNow_core]; exact ilu_core _ _ rfl
  · exact ilu_core _ _ rfl

@[simp] theorem judgeRound_core (s : State) : (judgeRound s).core = s.core := by simp [judgeRound]

@[simp] theorem judgeRounds_core (n : Nat) (s : State) : (judgeRounds n s).core = s.core := by
  induction n generalizing s with
  | zero => rfl
  | succ n ih =>
    unfold judgeRounds; simp only
    split
    · simp
    · simp [ih]

@[simp] theorem settleFrom_core (n k : Nat) (s : State) : (settleFrom n k s).core = s.core := by
  induction n generalizing k s with
  | zero => simp [settleFrom]
  | succ n ih =>
    unfold settleFrom; simp only
    split
    · simp
    · simp [ih]

@[simp] theorem settleWith_core (k : Nat) (s : State) : (settleWith k s).core = s.core := by
  simp [settleWith]

@[simp] theorem settle_core (s : State) : (settle s).core = s.core := settleWith_core _ _

@[simp] theorem settleSpeed_core (s : State) : (settleSpeed s).core = s.core := by
  simp [settleSpeed]

/-! ### What is kept, field by field -/

theorem core_lines {s t : State} (h : s.core = t.core) : s.lines = t.lines :=
  show s.core.lines = t.core.lines from congrArg (fun u : State => u.lines) h
theorem core_now {s t : State} (h : s.core = t.core) : s.now = t.now :=
  show s.core.now = t.core.now from congrArg (fun u : State => u.now) h
theorem core_trk {s t : State} (h : s.core = t.core) : s.trk = t.trk :=
  show s.core.trk = t.core.trk from congrArg (fun u : State => u.trk) h
theorem core_tbs {s t : State} (h : s.core = t.core) : s.tbs = t.tbs :=
  show s.core.tbs = t.core.tbs from congrArg (fun u : State => u.tbs) h
theorem core_lnk {s t : State} (h : s.core = t.core) : s.lnk = t.lnk :=
  show s.core.lnk = t.core.lnk from congrArg (fun u : State => u.lnk) h
theorem core_mge {s t : State} (h : s.core = t.core) : s.mge = t.mge :=
  show s.core.mge = t.core.mge from congrArg (fun u : State => u.mge) h
theorem core_mdc {s t : State} (h : s.core = t.core) : s.mdc = t.mdc :=
  show s.core.mdc = t.core.mdc from congrArg (fun u : State => u.mdc) h
theorem core_freeIndex {s t : State} (h : s.core = t.core) : s.freeIndex = t.freeIndex :=
  show s.core.freeIndex = t.core.freeIndex from congrArg (fun u : State => u.freeIndex) h
theorem core_pending {s t : State} (h : s.core = t.core) : s.pending = t.pending :=
  show s.core.pending = t.core.pending from congrArg (fun u : State => u.pending) h
theorem core_phases {s t : State} (h : s.core = t.core) : s.fal.phases = t.fal.phases :=
  show s.core.fal.phases = t.core.fal.phases from congrArg (fun u : State => u.fal.phases) h
theorem core_starve {s t : State} (h : s.core = t.core) : s.fal.starve = t.fal.starve :=
  show s.core.fal.starve = t.core.fal.starve from congrArg (fun u : State => u.fal.starve) h
theorem core_lockout {s t : State} (h : s.core = t.core) : s.exu.lockout = t.exu.lockout :=
  show s.core.exu.lockout = t.core.exu.lockout from congrArg (fun u : State => u.exu.lockout) h
theorem core_potState {s t : State} (h : s.core = t.core) : s.pot.state = t.pot.state :=
  show s.core.pot.state = t.core.pot.state from congrArg (fun u : State => u.pot.state) h
theorem core_contact {s t : State} (h : s.core = t.core) : s.pot.contact = t.pot.contact :=
  show s.core.pot.contact = t.core.pot.contact from congrArg (fun u : State => u.pot.contact) h
theorem core_feeder {s t : State} (h : s.core = t.core) : s.pot.feeder = t.pot.feeder :=
  show s.core.pot.feeder = t.core.pot.feeder from congrArg (fun u : State => u.pot.feeder) h
theorem core_feederEnabled {s t : State} (h : s.core = t.core) : s.pot.feederEnabled = t.pot.feederEnabled :=
  show s.core.pot.feederEnabled = t.core.pot.feederEnabled from congrArg (fun u : State => u.pot.feederEnabled) h
theorem core_grams {s t : State} (h : s.core = t.core) : s.pot.grams = t.pot.grams :=
  show s.core.pot.grams = t.core.pot.grams from congrArg (fun u : State => u.pot.grams) h
theorem core_storage {s t : State} (h : s.core = t.core) : s.lst.storage = t.lst.storage :=
  show s.core.lst.storage = t.core.lst.storage from congrArg (fun u : State => u.lst.storage) h
theorem core_limits {s t : State} (h : s.core = t.core) : s.lst.limits = t.lst.limits :=
  show s.core.lst.limits = t.core.lst.limits from congrArg (fun u : State => u.lst.limits) h
theorem core_block {s t : State} (h : s.core = t.core) : s.lst.block = t.lst.block :=
  show s.core.lst.block = t.core.lst.block from congrArg (fun u : State => u.lst.block) h
theorem core_potSource {s t : State} (h : s.core = t.core) : s.lpu.potSource = t.lpu.potSource :=
  show s.core.lpu.potSource = t.core.lpu.potSource from congrArg (fun u : State => u.lpu.potSource) h
theorem core_detail {s t : State} (h : s.core = t.core) : s.lst.detail = t.lst.detail :=
  show s.core.lst.detail = t.core.lst.detail from congrArg (fun u : State => u.lst.detail) h

@[simp] theorem settle_lines (s : State) : (settle s).lines = s.lines := core_lines (settle_core s)
@[simp] theorem settle_now (s : State) : (settle s).now = s.now := core_now (settle_core s)
@[simp] theorem settle_trk (s : State) : (settle s).trk = s.trk := core_trk (settle_core s)
@[simp] theorem settle_tbs (s : State) : (settle s).tbs = s.tbs := core_tbs (settle_core s)
@[simp] theorem settle_lnk (s : State) : (settle s).lnk = s.lnk := core_lnk (settle_core s)
@[simp] theorem settle_mge (s : State) : (settle s).mge = s.mge := core_mge (settle_core s)
@[simp] theorem settle_mdc (s : State) : (settle s).mdc = s.mdc := core_mdc (settle_core s)
@[simp] theorem settle_freeIndex (s : State) : (settle s).freeIndex = s.freeIndex := core_freeIndex (settle_core s)
@[simp] theorem settle_pending (s : State) : (settle s).pending = s.pending := core_pending (settle_core s)
@[simp] theorem settle_phases (s : State) : (settle s).fal.phases = s.fal.phases := core_phases (settle_core s)
@[simp] theorem settle_starve (s : State) : (settle s).fal.starve = s.fal.starve := core_starve (settle_core s)
@[simp] theorem settle_lockout (s : State) : (settle s).exu.lockout = s.exu.lockout := core_lockout (settle_core s)
@[simp] theorem settle_potState (s : State) : (settle s).pot.state = s.pot.state := core_potState (settle_core s)
@[simp] theorem settle_contact (s : State) : (settle s).pot.contact = s.pot.contact := core_contact (settle_core s)
@[simp] theorem settle_feeder (s : State) : (settle s).pot.feeder = s.pot.feeder := core_feeder (settle_core s)
@[simp] theorem settle_feederEnabled (s : State) : (settle s).pot.feederEnabled = s.pot.feederEnabled := core_feederEnabled (settle_core s)
@[simp] theorem settle_grams (s : State) : (settle s).pot.grams = s.pot.grams := core_grams (settle_core s)
@[simp] theorem settle_storage (s : State) : (settle s).lst.storage = s.lst.storage := core_storage (settle_core s)
@[simp] theorem settle_limits (s : State) : (settle s).lst.limits = s.lst.limits := core_limits (settle_core s)
@[simp] theorem settle_block (s : State) : (settle s).lst.block = s.lst.block := core_block (settle_core s)
@[simp] theorem settle_potSource (s : State) : (settle s).lpu.potSource = s.lpu.potSource := core_potSource (settle_core s)
@[simp] theorem settle_detail (s : State) : (settle s).lst.detail = s.lst.detail := core_detail (settle_core s)

/-- A slot that no judgement inside `settle` touches. -/
theorem core_slot {s t : State} (h : s.core = t.core) (k : SlotId) (hk : judgedSlot k.val = false) :
    s.ilu.slots[k.val] = t.ilu.slots[k.val] := by
  have e := congrArg (fun u : State => u.ilu.slots[k.val]) h
  simpa [State.core, coreSlots, Ilu.afterReset, hk] using e

theorem settle_slot (s : State) (k : SlotId) (hk : judgedSlot k.val = false) :
    (settle s).ilu.slots[k.val] = s.ilu.slots[k.val] := core_slot (settle_core s) k hk

/-- What of a loop no judgement inside `settle` touches. -/
theorem core_loop {s t : State} (h : s.core = t.core) (l : LoopId) :
    (getLoop s l).core = (getLoop t l).core := by
  have e := congrArg (fun u : State => getLoop u l) h
  simpa [State.core, getLoop] using e

theorem settle_loop (s : State) (l : LoopId) : (getLoop (settle s) l).core = (getLoop s l).core :=
  core_loop (settle_core s) l

/-- What of a hood no judgement inside `settle` touches. -/
theorem core_hood {s t : State} (h : s.core = t.core) (i : HoodId) :
    (getHood s i).core = (getHood t i).core := by
  have e := congrArg (fun u : State => getHood u i) h
  simpa [State.core, getHood] using e

/-- The fault flag of a nozzle. -/
theorem core_faulted {s t : State} (h : s.core = t.core) (n : NozzleId) :
    (getNozzle s n).faulted = (getNozzle t n).faulted := by
  have e := congrArg (fun u : State => (getNozzle u n).faulted) h
  simpa [State.core, getNozzle, Nozzle.core] using e

/-- The commands of both pumps. -/
theorem core_command {s t : State} (h : s.core = t.core) (p : Pump) :
    (getPump s p).command = (getPump t p).command := by
  have e := congrArg (fun u : State => (getPump u p).command) h
  cases p <;> simpa [State.core, getPump, PumpState.core] using e

end Sys2Proof.Machine
end

