-- ==== Sys2Proof/Laws/Flux.lean ====
section
/-! SUPPORT. The judgements of the other units leave FLX as it was; those of FLX, and so `settle`, keep
`TestLaw`: whatever closes the valve of a running test ends the test. -/

namespace Sys2Proof.Machine

open Sys2Proof.Safety

/-! ### FLX is left alone by the judgements of the other units -/

theorem foldl_flx {α : Type} (f : State → α → State) (h : ∀ s a, (f s a).flx = s.flx) (l : List α)
    (s : State) : (l.foldl f s).flx = s.flx := by
  induction l generalizing s with
  | nil => rfl
  | cons a l ih => simp [ih, h]

theorem repeat_flx (f : State → State) (h : ∀ s, (f s).flx = s.flx) (n : Nat) (s : State) :
    (Nat.repeat f n s).flx = s.flx := by
  induction n with
  | zero => rfl
  | succ n ih => simp [Nat.repeat, h, ih]

@[simp] theorem judgePermit_flx (s : State) : (judgePermit s).flx = s.flx := by
  unfold judgePermit; simp only; split <;> rfl

@[simp] theorem compose_flx (s : State) (l : LoopId) : (compose s l).flx = s.flx := by
  unfold compose; split <;> rfl

@[simp] theorem judgeLoops_flx (s : State) : (judgeLoops s).flx = s.flx :=
  foldl_flx _ (fun _ _ => by simp [judgeSensor, judgeBand]) _ _

@[simp] theorem judgePump_flx (s : State) (p : Pump) : (judgePump s p).flx = s.flx := by
  unfold judgePump; simp only
  split
  · split <;> simp
  · simp

@[simp] theorem judgePot_flx (s : State) : (judgePot s).flx = s.flx := by simp [judgePot, judgeTargets]

@[simp] theorem setRequirement_flx (s : State) (h : HoodId) : (setRequirement s h).flx = s.flx := by
  unfold setRequirement; split <;> rfl

@[simp] theorem handSave_flx (s : State) (h : HoodId) (n : Nat) : (handSave s h n).flx = s.flx := by
  unfold handSave; split
  · rfl
  · split <;> rfl

@[simp] theorem addTenth_flx (s : State) (h : HoodId) : (addTenth s h).flx = s.flx := by
  unfold addTenth; simp only; split <;> simp

@[simp] theorem accrue_flx (s : State) (h : HoodId) : (accrue s h).flx = s.flx := by
  unfold accrue; simp only
  split
  · rfl
  · rw [repeat_flx _ fun _ => addTenth_flx _ _]; rfl

@[simp] theorem judgeCounting_flx (s : State) (h : HoodId) : (judgeCounting s h).flx = s.flx := by
  unfold judgeCounting; split <;> simp

@[simp] theorem judgeExtraction_flx (s : State) : (judgeExtraction s).flx = s.flx := by
  simp [judgeExtraction, judgeService, judgeHood, judgeFan, judgeAirflow]

@[simp] theorem judgeSpeed_flx (s : State) : (judgeSpeed s).flx = s.flx := by
  unfold judgeSpeed; split <;> simp

@[simp] theorem judgePressure_flx (s : State) : (judgePressure s).flx = s.flx := by
  unfold judgePressure; split <;> simp

/-! ### A running test and the valve it holds -/

/-- `TestLaw` is about FLX alone. -/
theorem testLaw_of_flx {s t : State} (h : t.flx = s.flx) : TestLaw s → TestLaw t := by
  intro k n d; rw [h]; exact k n d

/-- A change of FLX that keeps the test and every valve open for a test. -/
theorem testLaw_of_kept {s t : State} (hs : TestLaw s) (ht : t.flx.test = s.flx.test)
    (hv : ∀ (n : NozzleId) (iv : Interval), s.flx.nozzles[n].valve = some iv → iv.owner = .test →
      ∃ x, t.flx.nozzles[n].valve = some x ∧ x.owner = .test) : TestLaw t := by
  intro n d h
  obtain ⟨iv, h1, h2⟩ := hs n d (ht ▸ h)
  exact hv n iv h1 h2

@[simp] theorem closeValve_test (s : State) (n : NozzleId) : (closeValve s n).flx.test = s.flx.test := by
  unfold closeValve; split <;> rfl

@[simp] theorem closeValves_test (s : State) (p : Interval → Bool) :
    (closeValves s p).flx.test = s.flx.test := by
  unfold closeValves
  generalize allNozzles = l
  induction l generalizing s with
  | nil => rfl
  | cons n l ih =>
    rw [List.foldl_cons, ih]
    split
    · split <;> simp
    · rfl

/-- An ended test runs no longer. -/
@[simp] theorem endTest_test (s : State) (c : TestEnd) : (endTest s c).flx.test = none := by
  unfold endTest; split
  · assumption
  · split <;> rfl

@[simp] theorem inhibitNow_test (s : State) : (inhibitNow s).flx.test = none := by
  simp [inhibitNow, cutAccounts]

theorem passStanding_testLaw {s : State} (h : TestLaw s) : TestLaw (passStanding s) := by
  unfold passStanding; simp only
  split
  · intro n d e; simp at e
  · exact testLaw_of_flx rfl h

theorem getNozzle_closeValve {s : State} {n m : NozzleId} (h : n ≠ m) :
    getNozzle (closeValve s n) m = getNozzle s m := by
  unfold closeValve; split
  · rfl
  · simp [getNozzle, updNozzle, upd, Fin.val_ne_of_ne h]

theorem getNozzle_openValve {s : State} {n m : NozzleId} (o : ValveOwner) (h : n ≠ m) :
    getNozzle (openValve s n o) m = getNozzle s m := by
  simp [openValve, getNozzle, updNozzle, upd, Fin.val_ne_of_ne h]

/-- The re-evaluation of the bar passes a valve open for a test over (R52). -/
theorem reevaluateNozzle_testValve {s : State} {n m : NozzleId} {iv : Interval}
    (h : (getNozzle s m).valve = some iv) (ho : iv.owner = .test) :
    (getNozzle (reevaluateNozzle s n) m).valve = some iv := by
  by_cases e : n = m
  · subst e; simp [reevaluateNozzle, shutUnwanted, openWanted, keepsOpen, h, ho]
  · have k : (getNozzle (shutUnwanted s n) m).valve = some iv := by
      unfold shutUnwanted; split
      · split
        · exact h
        · rw [getNozzle_closeValve e]; exact h
      · exact h
    unfold reevaluateNozzle openWanted; split
    · split
      · rw [getNozzle_openValve _ e]; exact k
      · exact k
    · exact k

@[simp] theorem reevaluateNozzle_test (s : State) (n : NozzleId) :
    (reevaluateNozzle s n).flx.test = s.flx.test := by
  have k : (shutUnwanted s n).flx.test = s.flx.test := by
    unfold shutUnwanted; split
    · split <;> simp
    · rfl
  unfold reevaluateNozzle openWanted; split
  · split
    · exact k
    · exact k
  · exact k

theorem reevaluateValves_testLaw {s : State} (h : TestLaw s) : TestLaw (reevaluateValves s) := by
  unfold reevaluateValves
  generalize allNozzles = l
  induction l generalizing s with
  | nil => exact h
  | cons n l ih =>
    exact ih (testLaw_of_kept h (reevaluateNozzle_test s n) fun m iv hv ho =>
      ⟨iv, reevaluateNozzle_testValve hv ho, ho⟩)

theorem markDoubt_testLaw {s : State} (h : TestLaw s) : TestLaw (markDoubt s) := by
  unfold markDoubt; split
  · exact testLaw_of_kept h rfl fun m iv hv ho => ⟨{ iv with doubt := true }, by
      have hm : s.flx.nozzles[m.val].valve = some iv := hv
      simp [hm], ho⟩
  · exact h

theorem expireDwell_testLaw {s : State} (h : TestLaw s) : TestLaw (expireDwell s) := by
  unfold expireDwell; split
  · exact h
  · exact h

theorem judgeFlux_testLaw {s : State} (h : TestLaw s) : TestLaw (judgeFlux s) := by
  have k := expireDwell_testLaw (markDoubt_testLaw (reevaluateValves_testLaw h))
  unfold judgeFlux
  generalize expireDwell (markDoubt (reevaluateValves s)) = t at k
  have j : TestLaw (judgeFluxing t) := k
  exact testLaw_of_flx (judgePressure_flx _) j

theorem judgeRound_testLaw {s : State} (h : TestLaw s) : TestLaw (judgeRound s) :=
  testLaw_of_flx (judgeExtraction_flx _) (judgeFlux_testLaw (testLaw_of_flx (by simp) (passStanding_testLaw h)))

theorem judgeRounds_testLaw (n : Nat) {s : State} (h : TestLaw s) : TestLaw (judgeRounds n s) := by
  induction n generalizing s with
  | zero => exact h
  | succ n ih =>
    unfold judgeRounds; simp only
    split
    · exact judgeRound_testLaw h
    · exact ih (judgeRound_testLaw h)

theorem settleFrom_testLaw (n k : Nat) {s : State} (h : TestLaw s) : TestLaw (settleFrom n k s) := by
  induction n generalizing k s with
  | zero => exact judgeRounds_testLaw _ h
  | succ n ih =>
    unfold settleFrom; simp only
    split
    · exact judgeRounds_testLaw _ h
    · exact ih _ (testLaw_of_flx (judgeSpeed_flx _) (judgeRounds_testLaw _ h))

@[simp] theorem judgeOutputs_flx (s : State) : (judgeOutputs s).flx = s.flx := rfl
@[simp] theorem judgeAdmission_flx (s : State) : (judgeAdmission s).flx = s.flx := rfl

theorem settleWith_testLaw (k : Nat) {s : State} (h : TestLaw s) : TestLaw (settleWith k s) :=
  testLaw_of_flx (by simp [settleWith]) (settleFrom_testLaw Config.settleRounds k h)

/-- What follows every event keeps the valve of a running test open for it. -/
theorem settle_testLaw {s : State} (h : TestLaw s) : TestLaw (settle s) := settleWith_testLaw _ h

theorem settleSpeed_testLaw {s : State} (h : TestLaw s) : TestLaw (settleSpeed s) :=
  settleWith_testLaw _ (testLaw_of_flx (judgeSpeed_flx _) (judgeRounds_testLaw _ h))

end Sys2Proof.Machine
end

