-- ==== Sys2Proof/Tests/Slice0.lean ====
section
/-! SUPPORT. Small tests: ill-formed commands refused, worked examples of the data sheet, and for each
statement with hypotheses a witness that meets them. -/

namespace Sys2Proof.Tests

open Sys2Proof Sys2Proof.Machine Sys2Proof.Safety

set_option Elab.async false

/-! ### A configured part -/

def geo : Geometry where
  countsPerMetre := 10000
  confirm := 20
  sprayPoint := 5000
  nozzleLead := 0
  zones := #v[⟨9000, 11000, 500, 300⟩, ⟨11000, 14000, 500, 300⟩, ⟨14000, 19000, 500, 300⟩,
    ⟨19000, 24000, 500, 300⟩, ⟨24000, 26000, 500, 300⟩, ⟨26000, 28000, 500, 300⟩]
  chipWave := 30000
  mainWave := 32000
  boostLead := 200
  boostLag := 100
  chipLead := 200
  chipLag := 100
  exitLoc := 48000
  exitTol := 150
  lengthTol := 30

def loopE : LoopEntry := ⟨1100, 40, 8, 1000, 30, 60, 50, 10⟩

def gateE (l : LoopId) (p : PhaseId) : GateEntry := ⟨some l, some p, some 100, some 1, some true⟩

def recipeA : Recipe where
  fluxMap := some 0
  fluxTarget := some 48000
  fluxTol := some 10
  zoneSp := #v[none, none, some 1350, some 1500, none, none]
  zoneFf := Vector.replicate 6 none
  chipUse := true
  contactSpeed := 700
  bandMin := 2300
  bandMax := 2700
  boardGap := 300
  transTol := 100
  transGap := 2500
  speedMin := 0
  speedMax := 6000

def potE : PotEntry where
  runSp := 2500
  setbackSp := 2000
  startMargin := 50
  setbackDelay := 60
  disagree := 30
  levelRef := 5000
  breakpoints := #v[⟨0, 0⟩, ⟨300, 10⟩, ⟨600, 20⟩, ⟨900, 30⟩]
  feedOn := -100
  feedOff := 100
  lowLow := -500
  highHigh := 500
  feederMaxRun := 60
  feederRate := 10
  chipNominal := 500
  chipIdle := 100
  mainNominal := 600
  mainIdle := 100
  ramp := 200
  pumpTol := 50
  maxDwell := 10
  conveyorSpeed := 1200

def hoodE : ExtractionEntry :=
  ⟨1600, 1200, some 600, 300, 800, some 500, 200, some 10, none, 5, 3, 120, 2000, 4000⟩

def hoodPE : ExtractionEntry :=
  { hoodE with reqReduced := none, fanReduced := none, vapourDwell := none, hotThreshold := some 1500 }

def full {H E : Type} {n : Nat} (h : Option H) (v : Vector (Option E) n) : Table H E n :=
  ⟨⟨h, v⟩, ⟨h, v⟩, true⟩

/-- Signals 0 to 18 in slots 0 to 18. -/
def maps : Vector (Option MapEntry) 64 :=
  Vector.ofFn fun i => if i.val < 19 then some ⟨i.val, i.val, .consumed, some 300, some 2000⟩ else none

def tables : Tbs where
  slotMap := full (some 100) maps
  geometry := full none #v[some geo]
  loop := full none (Vector.replicate 7 (some loopE))
  gate := full none (Vector.ofFn fun g => if h : g.val < 7 then some (gateE ⟨g.val, h⟩ 0)
    else some ⟨none, none, none, none, none⟩)
  phase := full none (Vector.replicate 3 (some ⟨50, 300⟩))
  recipe := full (some ⟨some 0, false⟩) ((Vector.replicate 16 none).set 0 (some recipeA))
  fluxMap := full none ((Vector.replicate 8 none).set 0 (some ⟨100, 2, [0x0F, 0x03]⟩))
  nozzle := full (some ⟨2000, 50⟩) (Vector.replicate 8 (some ⟨100, true⟩))
  pot := full none #v[some potE]
  extraction := full none #v[some hoodE, some hoodPE]
  action := full none (Vector.ofFn fun k => some ⟨0, if k.val = 0 then .untilRead else .onLive, false⟩)

def block : Block := ⟨Vector.replicate 7 3000, Vector.replicate 3 300, 60, #v[5, 6], #v[1000, 1000], 9⟩

/-- An ACTIVE loop with its PV at its setpoint. -/
def warm : Loop := { Loop.afterReset with mode := .active, setpoint := some 1100, pv := some 1100 }

/-- A board 2,000 dmm in, of known length. -/
def boardA : Board where
  data := ⟨412, some 0, 98000, 900000, some 1500, some 1500, ⟨false, false, false, false⟩, none,
    Vector.replicate 6 none, none⟩
  windows := ⟨.before, Vector.replicate 6 .before, .before, .before⟩
  contactBegun := false

/-- A configured part in RUN at machine time 1,000,000 ms and position 100,000 dmm. -/
def plant : State := { State.reset with
  lines := { Lines.atReset with maint := true }
  now := 1000000
  trk := { Trk.afterReset with pos := 100000, high := 100000, nextSample := 1000000 }
  tbs := tables
  flx := { Flx.afterReset with nozzles := Vector.replicate 8 ⟨none, false, some ⟨100, true⟩, none⟩ }
  lpu := ⟨Vector.replicate 7 warm, .none⟩
  pot := { Pot.afterReset with state := .ready, readyAt := some 900000, idleFrom := some 940000 }
  lnk := { Lnk.afterReset with
    mapSince := some 0
    signals := Vector.replicate 19 ⟨.valid, some 1100, some 999700, some 1, some 0, some 0x30⟩ }
  mdc := { Mdc.afterReset .powerOn 17 with mode := .run, notReady := false }
  lst := { Lst.afterReset (putBlock block) with
    limits := some (limitsOf block), block := some block, op := none } }

def plantAt (t : Time) : State := { plant with now := t }

/-- The plant with a track of the test's own. -/
def tracked (f : Trk → Trk) : State := { plant with trk := f plant.trk }

/-- The plant in another mode. -/
def moded (m : Mode) : State := { plant with mdc := { plant.mdc with mode := m } }

/-- The plant with another pot. -/
def potted (f : Pot → Pot) : State := { plant with pot := f plant.pot }

/-- The plant with the line MAINT inactive. -/
def unkeyed : State := { plant with lines := { plant.lines with maint := false } }

/-- The plant with one loop changed. -/
def looped (l : LoopId) (f : Loop → Loop) : State := updLoop plant l f

/-- The plant held in reset. -/
def held : State := { plant with lines := { plant.lines with rstn := true } }

/-- The state a command leaves. -/
def after (i : Instr) (s : State) : State :=
  match exec i s with
  | .next t => t
  | _ => s

/-! ### Ill-formed terms refused (one for each check) -/

theorem test_wf_field_of_8_bits : WellFormed.instr (.tableCommit 1 256) = false := by decide
theorem test_wf_field_of_16_bits : WellFormed.instr (.announce 1 65536 0 none false) = false := by decide
theorem test_wf_field_of_32_bits :
    WellFormed.instr (.announce 1 1 0 (some 4294967296) false) = false := by decide
theorem test_wf_signed_field :
    WellFormed.instr (.limitsWrite 1 ⟨Vector.replicate 7 32768, Vector.replicate 3 0, 10,
      Vector.replicate 2 1⟩) = false := by decide
theorem test_wf_target : WellFormed.instr (.tableRead 1 1 .active (.entry 255) 1) = false := by decide
theorem test_wf_item_index :
    WellFormed.instr (.tableStage 1 (.phase [.entry 255 .empty])) = false := by decide
theorem test_wf_item_content :
    WellFormed.instr (.tableStage 1 (.phase [.entry 0 (.filled ⟨50, 65536⟩)])) = false := by decide
theorem test_wf_item_count :
    WellFormed.instr (.tableStage 1 (.phase (List.replicate 256 (.entry 0 .empty)))) = false := by
  decide +kernel
theorem test_wf_mask_count :
    WellFormed.instr (.tableStage 1 (.fluxMap [.entry 0 (.filled ⟨20, 1, List.replicate 129 0⟩)])) =
      false := by decide +kernel
theorem test_wf_unknown_table : WellFormed.instr (.tableStage 1 (.unknown 11)) = false := by decide
theorem test_wf_good : WellFormed.instr (.tableStage 1 (.phase [.entry 2 (.filled ⟨60, 1000⟩)])) = true := by
  decide

/-! ### Worked examples of the data sheet -/

/-- R5: C = 125,000 and remainder 118,000; one forward count gives 3,000 and one dmm, one backward count
then gives 118,000 and the position before. -/
theorem test_encoder_example :
    let g := { geo with countsPerMetre := 125000 }
    let s := { State.reset with
      trk := { Trk.afterReset with remainder := 118000, pos := 700, high := 700 }
      tbs := { Tbs.afterReset with geometry := full none #v[some g] } }
    let t := after (.encoderCount true false) s
    let u := after (.encoderCount false false) t
    (t.trk.remainder, t.trk.pos) = (3000, 701) ∧ (u.trk.remainder, u.trk.pos) = (118000, 700) := by
  decide +kernel

/-- R2, the rule of division: "−120 divided by 16 is −8". -/
theorem test_floor_of_division : floorDiv (-120) 16 = -8 ∧ floorDiv (-1) 16 = -1 := by decide

/-- The worked cases of section 4.5 (R78): with Umax 600, Kp 40 and Ki 8 the loop far below its setpoint keeps
its integral at demand 600, and the one after an overshoot keeps its integral at demand 0. -/
theorem test_control_law_examples :
    let e : LoopEntry := { loopE with umax := 600 }
    let s := { plant with tbs := { tables with loop := full none (Vector.replicate 7 (some e)) } }
    let a := getLoop (applyLaw (updLoop s 0 fun x =>
      { x with setpoint := some 1300, pv := some 1100, integral := 40000 }) 0) 0
    let b := getLoop (applyLaw (updLoop s 0 fun x =>
      { x with setpoint := some 1200, pv := some 1350, integral := 20480 }) 0) 0
    (a.integral, a.demand) = (40000, 600) ∧ (b.integral, b.demand) = (20480, 0) := by decide +kernel

/-- The example of R122: breakpoints (0, 0), (400, 150), (700, 420), (1000, 800), and a falling pair. -/
theorem test_drawdown_example :
    let up : Vector Breakpoint 4 := #v[⟨0, 0⟩, ⟨400, 150⟩, ⟨700, 420⟩, ⟨1000, 800⟩]
    let down : Vector Breakpoint 4 := #v[⟨0, 0⟩, ⟨400, 150⟩, ⟨700, 90⟩, ⟨1000, 800⟩]
    [550, 1000, 0].map (levelOffset up) = [285, 800, 0] ∧
      [500, 450, 410].map (levelOffset down) = [130, 140, 148] := by decide

/-- The example of R117: a ramp of 200 at 10 ms and at 4 ms. -/
theorem test_ramp_example :
    let s (t : Time) := potted fun x => { x with lastFrame := some t }
    rampStep (s 999990) 200 = 2 ∧ rampStep (s 999996) 200 = 1 := by decide

/-- The example of R133: Kf 1600 at 2,500 and at 2,024 tenths of a pascal. -/
theorem test_airflow_example : airflowOf 1600 2500 = 1250 ∧ airflowOf 1600 2024 = 1100 := by decide

/-- The example of R55: target 48,000 nl and 10 %. -/
theorem test_flux_outcome_example :
    [43150, 43200, 52800, 52801].map (fun v => fluxOutcome ⟨0, .toSpray, v, false⟩ (some recipeA)) =
      [.low, .ok, .ok, .high] := by decide

/-- The example of R164: a next board of gap 300, tolerance 80 and transition gap 3,000 behind one of
tolerance 100 and transition gap 2,500, whose Z3 setpoints differ by 200. -/
theorem test_gap_example :
    let r := { recipeA with zoneSp := #v[none, none, none, some 1300, none, none] }
    let next := { recipeA with
      zoneSp := #v[none, none, none, some 1500, none, none]
      transTol := 80
      transGap := 3000 }
    let s := { plant with
      tbs := { tables with recipe := full none ((Vector.replicate 16 none).set 0 (some r)) }
      trk := { plant.trk with queue := [boardA] } }
    gapOf s next = 3000 ∧ gapOf s { next with zoneSp := r.zoneSp } = 300 := by decide +kernel

/-- R187: the register starts at 0xFFFF. -/
theorem test_crc_of_nothing : crc16 [] = 0xFFFF#16 := by decide

/-- R187, R168: a frame of no slots and no area has 7 bytes; one bit of its number turned makes it bad. -/
theorem test_frames :
    let crc := put16 (crc16 [0, 1, 0, 0, 0]).toNat
    frameGood ([0, 1, 0, 0, 0] ++ crc) = true ∧ frameGood ([0, 3, 0, 0, 0] ++ crc) = false := by
  decide +kernel

/-- R193, R188: seven and three 16-bit fields, a 32-bit one, four 32-bit ones, a 16-bit one: 42 bytes, and
the CRC. -/
theorem test_block_length : (putBlock block).length = 43 := by decide +kernel

/-- A negative field of a block is read back with its sign. -/
theorem test_block_signed :
    (readBlock (putBlock { block with hardMax := Vector.replicate 7 (-32768) })).map (fun b => b.hardMax[0]) =
      some (-32768) := by decide +kernel

/-- R194: the first start-up read of a part finds no block, so the conservative limits come into force. -/
theorem test_first_start :
    let t := after .startReadCompletion State.reset
    (t.mdc.mode, t.ilu.slots[slotLimitsInvalid], t.lst.limits.map fun x => x.hardMax[0]) =
      (.config, ⟨true, true, 1⟩, some 3000) := by decide +kernel

/-- R70: the cause RUNAWAY is always gone. -/
theorem test_clear_fault :
    let s := looped 2 fun x => { x with mode := .fault, causes := ⟨false, false, true⟩, integral := 40 }
    let t := after (.faultClearLoop 1 2) s
    ((getLoop t 2).mode, (getLoop t 2).integral) = (.active, 0) := by decide +kernel

/-! ### Witnesses: states and operands that meet the hypotheses of the statements, each clause in its turn -/

/-- The part with 12.5 counts per dmm and a remainder. -/
def counting (r : Nat) : State := { State.reset with
  trk := { Trk.afterReset with remainder := r }
  tbs := { Tbs.afterReset with geometry := full none #v[some { geo with countsPerMetre := 125000 }] } }

/-- A board still without a length, awaiting its trailing edge. -/
def boardB : Board := { boardA with data := { boardA.data with len := none } }

/-- The plant with some announcements. -/
def ringed (l : List Announcement) : State := tracked fun k => { k with ring := l }

/-- The plant with some boards. -/
def queued (l : List Board) : State := tracked fun k => { k with queue := l, entered := BitVec.ofNat 32 l.length }

/-- The plant with a nozzle's valve open for an owner since a moment. -/
def sprayed (o : ValveOwner) (t0 : Time) : State :=
  updNozzle plant 3 fun x => { x with valve := some ⟨o, t0, 100, 2000, false⟩ }

/-- The plant with some tables of the test's own. -/
def tabled (f : Tbs → Tbs) : State := { plant with tbs := f plant.tbs }

/-- The plant with one signal's row changed. -/
def signalled (i : SignalId) (f : Signal → Signal) : State := updSignal plant i f

/-- The plant with a storage operation in flight. -/
def storing (o : StoreOp) : State := { plant with lst := { plant.lst with op := some o } }

theorem witness_emptyQueueIsATick :
    (held.pending = [] ∧ held.lines.rstn = true) ∧ plant.pending = [] ∧ Running plant ∧
      (plantAt 999999).now + 1 = (plantAt 999999).trk.nextSample := by unfold Running; decide +kernel

theorem witness_resets : Resets State.reset .powerOnReset ∧ Resets held .rstnReset ∧
    Resets plant (.reset 1) ∧ plant.lst.op = none ∧
    (storing (.save 999960 block)).lst.op = some (.save 999960 block) ∧
    (storing (.write 999960 block)).lst.op = some (.write 999960 block) :=
  ⟨.powerOn, .rstnLine rfl, .request 1 rfl, rfl, rfl, rfl⟩

theorem witness_heldInReset : Running plant ∧ held.lines.rstn = true ∧
    Instr.speedSample ≠ .powerOnReset ∧ Instr.speedSample ≠ .rstnReset := by unfold Running; decide +kernel

theorem witness_encoderCount :
    (Running State.reset ∧ activeGeometry State.reset = none) ∧
    (∃ g, activeGeometry (counting 0) = some g ∧ (true, false) = nextPair (false, false) ∧
      (false, false) = nextPair (false, true) ∧ g.countsPerMetre = 125000 ∧
      114999 + 10000 < g.countsPerMetre ∧ g.countsPerMetre ≤ 115000 + 10000) ∧
    (counting 114999).trk.remainder = 114999 ∧ (counting 9999).trk.remainder < 10000 ∧
    10000 ≤ (counting 10000).trk.remainder ∧
    ((true, true) ≠ nextPair (false, false) ∧ (false, false) ≠ nextPair (true, true)) :=
  ⟨by unfold Running; decide +kernel, ⟨_, rfl, by decide +kernel⟩, by decide +kernel⟩

theorem witness_eyeEdges :
    let s := tracked fun k => { k with entryEye := .pending 99990 999990 }
    let u := { s with lines := { s.lines with bes := true, bxs := true } }
    (Running plant ∧ plant.lines.bes = false ∧ plant.trk.entryEye = .clear ∧ plant.lines.bxs = false ∧
      plant.trk.exitEye = .clear) ∧
    Running u ∧ u.lines.bes = true ∧ u.trk.entryEye = .pending 99990 999990 ∧ u.trk.awaiting = none ∧
      u.lines.bxs = true := by unfold Running; decide +kernel

theorem witness_trailingEdge :
    let s := tracked fun k => { k with queue := [boardB], entryEye := .confirmed, awaiting := some 98000 }
    let u := { s with lines := { s.lines with bes := true } }
    (Running u ∧ u.lines.bes = true ∧ u.trk.entryEye = .confirmed ∧ u.trk.awaiting = some 98000 ∧
      findBoard u 98000 = some boardB ∧ activeGeometry u = some geo) ∧
    ({ u with trk := { u.trk with awaiting := none } } : State).trk.awaiting = none := by unfold Running; decide +kernel

theorem witness_speedSample : Running plant ∧ plant.now = plant.trk.nextSample ∧
    (plantAt 1000001).now ≠ plant.trk.nextSample := by unfold Running; decide +kernel

theorem witness_announce :
    (∀ n ∈ [1, 65535], 1 ≤ n ∧ n ≤ 65535) ∧ (∀ n ∈ [1, 60000], 1 ≤ n ∧ n ≤ 60000) ∧
    (∃ r : RecipeId, r.val = 0 ∧ plant.tbs.recipe.committed = true ∧
      (activeRecipe plant r).isSome = true) ∧
    (¬ ∃ r : RecipeId, r.val = 1 ∧ (activeRecipe plant r).isSome = true) ∧
    (∃ a ∈ (ringed [⟨7, 0, none, false⟩]).trk.ring, a.tag = 7) ∧
    (∃ b ∈ (queued [boardA]).trk.queue, b.data.tag = 412) ∧
    16 ≤ (ringed (List.replicate 16 ⟨7, 0, none, false⟩)).trk.ring.length ∧
    (ringed (List.replicate 15 ⟨7, 0, none, false⟩)).trk.ring.length < 16 ∧
    (potted fun x => { x with state := .setback }).pot.state = .setback := by decide +kernel

theorem witness_withdraw :
    Running (ringed [⟨7, 0, none, false⟩]) ∧ (7 : Nat) ≠ 0 ∧
    (∃ a ∈ (ringed [⟨7, 0, none, false⟩]).trk.ring, a.tag = 7) ∧
    ∀ a ∈ (ringed [⟨7, 0, none, false⟩]).trk.ring, a.tag ≠ 8 := by unfold Running; decide +kernel

theorem witness_trackPurge :
    let s := tracked fun k => { k with
      queue := [boardA], completions := List.replicate 16 ⟨boardA.data, .exited, some 5⟩ }
    Running s ∧ s.trk.completions.length ≤ 16 ∧ s.trk.completions.length = 16 := by unfold Running; decide +kernel

theorem witness_confirmedEntry :
    (moded .config).mdc.mode ≠ .run ∧
    (plant.mdc.mode = .run ∧ behindNewest (queued [boardA]) 99499 = true ∧
      behindNewest (queued [boardA]) 99500 = false) ∧
    24 ≤ (queued (List.replicate 24 boardA)).trk.queue.length ∧
    (behindNewest plant 100000 = false ∧ plant.trk.queue.length < 24 ∧
      (queued (List.replicate 23 boardA)).trk.queue.length < 24) ∧
    producedPermit plant = false := by decide +kernel

theorem witness_exitAndLoss :
    let s := queued [boardA]
    (s.mdc.mode = .run ∧ s.trk.queue = boardA :: [] ∧ s.trk.completions.length ≤ 16) ∧
    (∀ p : Pos, p = 98000 + 47850 ∨ p = 98000 + 48150 →
      (geo.exitLoc : Int) - geo.exitTol ≤ (p - boardA.data.pIn).toInt ∧
      (p - boardA.data.pIn).toInt ≤ (geo.exitLoc : Int) + geo.exitTol) ∧
    (((98000 + 47849 : Pos) - boardA.data.pIn).toInt < (geo.exitLoc : Int) - geo.exitTol ∧
      (geo.exitLoc : Int) + geo.exitTol < ((98000 + 48151 : Pos) - boardA.data.pIn).toInt) ∧
    (geo.exitLoc : Int) + geo.exitTol + geo.confirm <
      leading { s with trk := { s.trk with pos := 98000 + 48171 } } boardA.data ∧
    leading { s with trk := { s.trk with pos := 98000 + 48170 } } boardA.data ≤
      (geo.exitLoc : Int) + geo.exitTol + geo.confirm :=
  ⟨by decide +kernel, by rintro p (rfl | rfl) <;> decide +kernel, by decide +kernel⟩

theorem witness_completionQueue :
    let s (n : Nat) := tracked fun k => { k with completions := List.replicate n ⟨boardA.data, .lost, none⟩ }
    (s 15).trk.completions.length < 16 ∧ (s 16).trk.completions.length = 16 := by decide +kernel

theorem witness_tableStage : Running plant ∧ stageOk (.unknown 12) = false ∧
    stageOk (.pot [.entry 1 .empty]) = false ∧ stageOk (.pot [.header .empty]) = false ∧
    stageOk (.action [.entry 63 .unnamed]) = false ∧
    stageOk (.pot [.entry 0 (.filled potE)]) = true := by unfold Running; decide +kernel

theorem witness_tableDiscard : Running plant ∧ ((0 : Nat) < 1 ∨ 11 < 0) ∧ ((12 : Nat) < 1 ∨ 11 < 12) := by
  unfold Running; decide +kernel

/-- The plant in CONFIG with every loop OFF. -/
def cold : State := { moded .config with lpu := ⟨Vector.replicate 7 Loop.afterReset, .none⟩ }

theorem witness_tableCommit_valid :
    ∀ n ∈ [1, 2, 3, 4, 5, 6, 7, 8, 9, 10, 11], validate cold n = none ∧ inUse cold n = none := by
  decide +kernel

theorem witness_tableCommit :
    let emptied : Table RecipeHeader Recipe 16 :=
      { tables.recipe with staged := ⟨some ⟨none, false⟩, Vector.replicate 16 none⟩ }
    let t := { ringed [⟨7, 0, none, false⟩] with tbs := { tables with recipe := emptied } }
    (Running cold ∧ (cold.mdc.mode = .config) ∧ ∀ l : LoopId, (getLoop cold l).mode = .off) ∧
    plant.mdc.mode ≠ .config ∧ (¬ ∀ l : LoopId, (getLoop (moded .config) l).mode = .off) ∧
    (validate (tabled fun b => { b with phase := { b.phase with
      staged := ⟨none, Vector.replicate 3 (some ⟨55, 300⟩)⟩ } }) 5).isSome = true ∧
    (validate t 6 = none ∧ inUse t 6 = some 0) := by unfold Running; decide +kernel

theorem witness_reads : Running plant ∧ State.reset.mdc.mode = .starting ∧
    plant.mdc.mode ≠ .starting ∧ plant.lst.limits = some (limitsOf block) ∧ (1 : Nat) ≤ 1 ∧
    (∀ n ∈ [1, 9, 7, 26, 3, 30], n - 1 < n ∧ n ≤ n) ∧ ((63 : Nat) < 64 ∧ ¬ (64 : Nat) < 64) := by
  unfold Running; decide +kernel

theorem witness_stuckValve :
    (Running (sprayed .test 998000) ∧
      (getNozzle (sprayed .test 998000) 3).valve = some ⟨.test, 998000, 100, 2000, false⟩ ∧
      2000 ≤ elapsed (sprayed .test 998000).now 998000) ∧
    ({ sprayed .test 998000 with flx := { (sprayed .test 998000).flx with test := some ⟨3, 2000⟩ } } :
      State).flx.test = some ⟨3, 2000⟩ ∧
    (getNozzle plant 3).valve = none ∧ elapsed (sprayed .test 998001).now 998001 < 2000 := by unfold Running; decide +kernel

theorem witness_fluxTimers :
    let s (t0 : Time) := { plant with flx := { plant.flx with dwellFrom := some t0 } }
    let v (t0 : Time) := { sprayed .test t0 with
      flx := { (sprayed .test t0).flx with test := some ⟨3, 500⟩ } }
    (Running (s 990000) ∧ (s 990000).flx.dwellFrom = some 990000 ∧
      vapourDwell (s 990000) ≤ elapsed (s 990000).now 990000 ∧
      (∀ b ∈ (s 990000).trk.queue, b.windows.spray ≠ .opened) ∧
      ∀ n : NozzleId, (getNozzle (s 990000) n).valve = none) ∧
    elapsed (s 990001).now 990001 < vapourDwell (s 990001) ∧
    (Running (v 999500) ∧ (v 999500).flx.test = some ⟨3, 500⟩ ∧
      (getNozzle (v 999500) 3).valve = some ⟨.test, 999500, 100, 2000, false⟩ ∧
      500 ≤ elapsed (v 999500).now 999500) ∧
    elapsed (v 999501).now 999501 < 500 := by unfold Running; decide +kernel

theorem witness_nozzleRequests :
    let s := moded .maintenance
    (Running s ∧ s.lines.maint = true ∧ s.mdc.mode = .maintenance ∧ s.flx.test = none ∧
      (getNozzle s 7).inForce = some ⟨100, true⟩ ∧ (getNozzle s 7).faulted = false ∧ s.ilu.standing < 3) ∧
    (∀ d ∈ [1, 2000], (7 : Nat) < 8 ∧ 1 ≤ d ∧ d ≤ 2000) ∧ ¬ ((8 : Nat) < 8) ∧ ¬ ((2001 : Nat) ≤ 2000) ∧
    unkeyed.lines.maint = false ∧ plant.mdc.mode ≠ .maintenance ∧
    ({ s with flx := { s.flx with test := some ⟨3, 5⟩ } } : State).flx.test ≠ none ∧
    (getNozzle (updNozzle s 7 fun x => { x with faulted := true }) 7).faulted = true := by unfold Running; decide +kernel

theorem witness_loopSet :
    let cooled := looped 0 fun x => { x with mode := .off }
    let failed := looped 5 fun x => { x with mode := .fault }
    (Running cooled ∧ cooled.mdc.mode ≠ .starting ∧ cooled.tbs.loop.committed = true ∧
      (getLoop cooled 0).mode = .off ∧ loopSignalLost cooled 0 = false) ∧
    (getLoop plant 5).mode = .active ∧ (getLoop failed 5).mode = .fault ∧
    loopSignalLost (signalled 0 fun g => { g with state := .lost }) 0 = true ∧
    (State.reset.mdc.mode = .starting ∧ (moded .config).mdc.mode ≠ .starting ∧
      State.reset.tbs.loop.committed = false) ∧ (5 : Nat) < 6 ∧ 6 ≤ 6 := by unfold Running; decide +kernel

theorem witness_faultClearLoop :
    let s (c : Causes) := looped 6 fun x => { x with mode := .fault, causes := c }
    let hot := looped 6 fun x =>
      { x with mode := .fault, causes := ⟨false, true, false⟩, pv := some 3001 }
    (Running (s ⟨true, true, true⟩) ∧ (getLoop (s ⟨true, true, true⟩) 6).mode = .fault ∧
      classOf plant sigPA = .usable ∧ (getLoop (s ⟨true, true, true⟩) 6).pv = some 1100 ∧
      hardMax plant 6 = some 3000) ∧
    ((getLoop hot 6).pv = some 3001 ∧ hardMax hot 6 = some 3000 ∧ ¬ ((3001 : Int) ≤ 3000)) ∧
    (getLoop plant 6).mode ≠ .fault ∧ (7 : Nat) ≤ 7 := by unfold Running; decide +kernel

theorem witness_runaway :
    let s (t0 : Time) (v : Int) := looped 0 fun x => { x with window := some ⟨t0, v⟩ }
    (Running (s 940000 1051) ∧ (getLoop (s 940000 1051) 0).mode = .active ∧
      (getLoop (s 940000 1051) 0).window = some ⟨940000, 1051⟩ ∧
      (getLoop (s 940000 1051) 0).pv = some 1100 ∧ activeLoop (s 940000 1051) 0 = some loopE ∧
      loopE.runawayWindow * 1000 ≤ elapsed (s 940000 1051).now 940000 ∧
      loopHeld (s 940000 1051) 0 = false ∧ (1100 : Int) - 1051 < loopE.runawayRise ∧
      (s 940000 1051).ilu.slots[slotRunaway 0].live = false) ∧
    loopE.runawayRise ≤ (1100 : Int) - 1050 ∧
    ¬ (loopE.runawayWindow * 1000 ≤ elapsed (s 940001 1051).now 940001) ∧
    loopHeld (signalled 0 fun g => { g with state := .held }) 0 = true := by unfold Running; decide +kernel

theorem witness_settleTimer :
    let s (l : LoopId) (t0 : Time) := looped l fun x =>
      { x with settleFrom := some t0, inBand := true, pv := some (if l = 6 then 2500 else 1100) }
    (∀ l : LoopId, l = 0 ∨ l = 6 → Running (s l 990000) ∧
      (getLoop (s l 990000) l).settleFrom = some 990000 ∧ activeLoop (s l 990000) l = some loopE ∧
      loopE.settle * 1000 ≤ elapsed (s l 990000).now 990000 ∧ (getLoop (s l 990000) l).inBand = true ∧
      inBandNow (compose (s l 990000) l) l = true) ∧
    elapsed (s 0 990001).now 990001 < loopE.settle * 1000 ∧
    (potted fun x => { x with state := .heating }).pot.state = .heating := by unfold Running; decide +kernel

theorem witness_controlLaw :
    (getLoop plant 0).mode = .active ∧ (getLoop plant 0).setpoint = some 1100 ∧
    (getLoop plant 0).pv = some 1100 ∧ activeLoop plant 0 = some loopE ∧ loopE.kp ≤ 255 ∧
    loopE.ki ≤ 255 ∧ (getLoop plant 0).integral ≤ loopE.umax * 256 ∧
    ({ loopE with umax := 0 } : LoopEntry).umax = 0 := by decide +kernel

theorem witness_zeroCross :
    let s (t0 : Time) := updPhase plant 0 fun x => { x with lastEdge := some t0 }
    (Running State.reset ∧ activePhase State.reset 0 = none) ∧
    (elapsed (s 999997).now 999997 < 4 ∧ 4 ≤ elapsed (s 999996).now 999996) ∧
    (activePhase plant 0 = some ⟨50, 300⟩ ∧ (getPhase plant 0).lastEdge = none ∧
      plant.lst.limits = some (limitsOf block) ∧ State.reset.lst.limits = none) := by unfold Running; decide +kernel

theorem witness_phaseLoss :
    let s (f : Nat) (t0 : Time) := updPhase plant 0 fun x =>
      { x with frequency := some f, lastEdge := some t0 }
    let first := updPhase plant 0 fun x => { x with frequency := some 50, committedAt := some 999970 }
    (Running (s 50 999970) ∧ activePhase (s 50 999970) 0 = some ⟨50, 300⟩ ∧
      (getPhase (s 50 999970) 0).frequency = some 50 ∧
      (getPhase (s 50 999970) 0).lastEdge = some 999970 ∧
      (s 50 999970).ilu.slots[slotPhaseLost 0].live = false ∧
      30 ≤ elapsed (s 50 999970).now 999970 ∧ ¬ 30 ≤ elapsed (s 50 999971).now 999971) ∧
    ((getPhase (s 60 999975) 0).frequency = some 60 ∧ 25 ≤ elapsed (s 60 999975).now 999975) ∧
    (getPhase first 0).lastEdge = none ∧ (getPhase first 0).committedAt = some 999970 := by unfold Running; decide +kernel

theorem witness_potStartAndStop :
    let off := potted fun x => { x with state := .off }
    let fed := potted fun x => { x with feeder := .on 940000 }
    (Running off ∧ off.pot.state = .off ∧ off.mdc.mode ≠ .starting ∧ off.tbs.pot.committed = true ∧
      off.tbs.loop.committed = true ∧ classOf off sigPA ≠ .lost) ∧
    (plant.pot.state ≠ .off ∧ (getLoop plant loopP).mode = .active ∧ plant.pot.feeder = .off) ∧
    (State.reset.pot.state = .off ∧ State.reset.mdc.mode = .starting) ∧
    State.reset.tbs.pot.committed = false ∧
    (classOf (signalled 6 fun g => { g with state := .lost }) sigPA = .lost ∧
      classOf (signalled 7 fun g => { g with state := .lost }) sigPB = .lost) ∧
    (fed.pot.feeder = .on 940000 ∧ activePot fed = some potE) ∧
    (getLoop (looped 6 fun x => { x with mode := .fault }) loopP).mode = .fault := by unfold Running; decide +kernel

theorem witness_setbackAndResume :
    let s (t0 : Time) := potted fun x => { x with idleFrom := some t0 }
    (Running plant ∧ plant.pot.state = .ready ∧ plant.mdc.mode = .run ∧ plant.trk.queue = [] ∧
      plant.trk.ring = []) ∧
    (activePot (s 940000) = some potE ∧ (s 940000).pot.idleFrom = some 940000 ∧ potE.setbackDelay ≠ 0 ∧
      potE.setbackDelay * 1000 ≤ elapsed (s 940000).now 940000) ∧
    ¬ (potE.setbackDelay * 1000 ≤ elapsed (s 940001).now 940001) ∧ (queued [boardA]).trk.queue ≠ [] ∧
    (potted fun x => { x with state := .setback }).pot.state = .setback := by unfold Running; decide +kernel

theorem witness_pumpFaultAndDwell :
    let s (t0 : Time) := potted fun x => { x with main := { x.main with faultFrom := some t0 } }
    let v (t0 : Time) := { queued [boardA] with
      pot := { plant.pot with contact := some ⟨98000, 412, t0, false, false⟩ } }
    (Running (s 998000) ∧ (getPump (s 998000) .main).faultFrom = some 998000 ∧
      (s 998000).ilu.slots[slotPumpFault .main].live = false ∧
      2000 ≤ elapsed (s 998000).now 998000 ∧ elapsed (s 998001).now 998001 < 2000) ∧
    (Running (v 990000) ∧ (v 990000).pot.contact = some ⟨98000, 412, 990000, false, false⟩ ∧
      activePot (v 990000) = some potE ∧ potE.maxDwell * 1000 ≤ elapsed (v 990000).now 990000 ∧
      findBoard (v 990000) 98000 = some boardA) ∧
    elapsed (v 990001).now 990001 < potE.maxDwell * 1000 := by unfold Running; decide +kernel

theorem witness_feederRunEnds :
    let s (f : Feeder) := potted fun x => { x with feeder := f }
    (Running (s (.on 940000)) ∧ activePot (s (.on 940000)) = some potE ∧
      (s (.on 940000)).pot.feeder = .on 940000 ∧
      potE.feederMaxRun * 1000 ≤ elapsed (s (.on 940000)).now 940000 ∧
      elapsed (s (.on 940001)).now 940001 < potE.feederMaxRun * 1000) ∧
    ((s (.jog 999900 100)).pot.feeder = .jog 999900 100 ∧ 100 ≤ elapsed (s (.jog 999900 100)).now 999900 ∧
      elapsed (s (.jog 999901 100)).now 999901 < 100) := by unfold Running; decide +kernel

theorem witness_feederRequests :
    let s := { moded .maintenance with
      lnk := (signalled sigFeed fun g => { g with value := some 0 }).lnk }
    (Running s ∧ s.lines.maint = true ∧ s.mdc.mode = .maintenance ∧ s.pot.feeder = .off ∧
      s.pot.feederEnabled = true ∧ s.pot.state = .ready ∧ latest s sigFeed = some 0 ∧ s.pot.level = none) ∧
    (∀ d ∈ [100, 120000], 100 ≤ d ∧ d ≤ 120000) ∧ ¬ (100 ≤ 99) ∧ ¬ (120001 ≤ 120000) ∧
    unkeyed.lines.maint = false ∧ plant.mdc.mode ≠ .maintenance ∧
    (latest plant sigFeed ≠ some 0 ∧ latest plant sigFeed ≠ some 1) ∧ (1 : Nat) ≠ 0 := by unfold Running; decide +kernel

theorem witness_graceAndDebounce :
    let s (h : HoodId) (f : Hood → Hood) := updHood plant h f
    let g (t0 : Time) := s 0 fun x =>
      { x with graceFrom := some t0, airflow := some 100, requirement := some 1200 }
    let d (t0 : Time) (low : Bool) := s 1 fun x => { x with debounce := some ⟨t0, low⟩ }
    (Running (g 995000) ∧ (getHood (g 995000) 0).graceFrom = some 995000 ∧
      activeExtraction (g 995000) 0 = some hoodE ∧ hoodE.grace * 1000 ≤ elapsed (g 995000).now 995000 ∧
      elapsed (g 995001).now 995001 < hoodE.grace * 1000 ∧
      (g 995000).ilu.slots[slotExtractLow 0].live = false) ∧
    (∀ low : Bool, Running (d 997000 low) ∧ (getHood (d 997000 low) 1).debounce = some ⟨997000, low⟩ ∧
      activeExtraction (d 997000 low) 1 = some hoodPE ∧
      hoodPE.debounce * 1000 ≤ elapsed (d 997000 low).now 997000 ∧
      (d 997000 low).ilu.slots[slotExtractLow 1].live = false) ∧
    elapsed (d 997001 true).now 997001 < hoodPE.debounce * 1000 := by unfold Running; decide +kernel

theorem witness_lockoutTimer :
    let s (t0 : Time) := updHood plant 0 fun x => { x with lockoutFrom := some t0 }
    let v := { s 880000 with exu := { (s 880000).exu with lockout := some 1 } }
    (Running (s 880000) ∧ (getHood (s 880000) 0).lockoutFrom = some 880000 ∧
      activeExtraction (s 880000) 0 = some hoodE ∧ (s 880000).lst.limits = some (limitsOf block) ∧
      max hoodE.lockout (limitsOf block).lockoutMin * 1000 ≤ elapsed (s 880000).now 880000 ∧
      (s 880000).exu.lockout = none ∧ (s 880000).ilu.slots[slotLockout].live = false ∧
      FumeLaw (s 880000)) ∧
    ¬ (max hoodE.lockout (limitsOf block).lockoutMin * 1000 ≤ elapsed (s 880001).now 880001) ∧
    v.exu.lockout = some 1 := by
  unfold Running FumeLaw; decide +kernel

theorem witness_lockoutClear :
    let s := updHood (updHood plant 0 fun x => { x with requirement := some 1200, airflow := some 1200 }) 1
      fun x => { x with requirement := some 1200, airflow := some 1200 }
    let v := updHood s 1 fun x => { x with airflow := some 1199 }
    (Running s ∧ s.lines.maint = true ∧ s.tbs.extraction.committed = true ∧
      ∀ h : HoodId, s.ilu.slots[slotExtractLow h].live = false ∧ (getHood s h).requirement = some 1200 ∧
        1200 ≤ (getHood s h).airflow.getD 0) ∧
    unkeyed.lines.maint = false ∧
    ((getHood v 1).requirement = some 1200 ∧ ¬ (1200 ≤ (getHood v 1).airflow.getD 0)) := by unfold Running; decide +kernel

theorem witness_filterHours :
    let s (a : Nat) := updHood plant 1 fun x => { x with runningSince := some 999000, accumulator := a }
    (Running (s 359000) ∧ (getHood (s 359000) 1).runningSince = some 999000 ∧
      360000 ≤ (getHood (s 359000) 1).accumulator + elapsed (s 359000).now 999000 ∧
      (getHood (s 358999) 1).accumulator + elapsed (s 358999).now 999000 < 360000) ∧
    (2 : Nat) ≤ 2 ∧ plant.lines.maint = true ∧ unkeyed.lines.maint = false := by unfold Running; decide +kernel

theorem witness_estopEdge :
    let s := { plant with ilu := { plant.ilu with permit := true } }
    let v := { updSlot s slotEstop fun _ => ⟨true, true, 0⟩ with lines := { s.lines with estop := true } }
    (Running s ∧ s.lines.estop ≠ true ∧ s.ilu.slots[slotEstop].live = s.lines.estop ∧ s.ilu.permit = true) ∧
    (v.lines.estop ≠ false ∧ v.ilu.slots[slotEstop].live = v.lines.estop ∧
        v.ilu.slots[slotEstop].latched = true) := by unfold Running; decide +kernel

theorem witness_signalAges :
    let s (x : SignalState) (t0 : Time) := signalled 0 fun g => { g with state := x, fresh := some t0 }
    let m : MapEntry := ⟨0, 0, .consumed, some 300, some 2000⟩
    (Running (s .valid 999700) ∧ mapOf (s .valid 999700) 0 = some m ∧
      (signal (s .valid 999700) 0).state = .valid ∧ (signal (s .valid 999700) 0).fresh = some 999700 ∧
      300 ≤ elapsed (s .valid 999700).now 999700 ∧ elapsed (s .valid 999701).now 999701 < 300 ∧
      (s .valid 999700).ilu.slots[slotInputHeld].live = false) ∧
    ((signal (s .held 998000) 0).state = .held ∧ 2000 ≤ elapsed (s .held 998000).now 998000 ∧
      elapsed (s .held 998001).now 998001 < 2000) ∧
    ((signal (s .absent 0) 0).state = .absent ∧ (s .absent 0).lnk.mapSince = some 0 ∧
      2000 ≤ elapsed (s .absent 0).now 0 ∧ (getLoop (s .absent 0) 0).mode = .active) := by unfold Running; decide +kernel

theorem witness_linkTimeout :
    let s (t0 : Time) := { plant with lnk := { plant.lnk with linkFrom := t0 } }
    plant.tbs.slotMap.active.header.getD 500 = 100 ∧ Running (s 999900) ∧
    100 ≤ elapsed (s 999900).now (s 999900).lnk.linkFrom ∧ (s 999900).ilu.slots[slotLinkLost].live = false ∧
    elapsed (s 999901).now (s 999901).lnk.linkFrom < 100 := by unfold Running; decide +kernel

theorem witness_frames :
    let good := [0, 1, 0, 0, 0] ++ put16 (crc16 [0, 1, 0, 0, 0]).toNat
    (Running plant ∧ ([] : List Byte).length < 7) ∧ 64 < (([0, 1, 65, 0] : List Byte).getD 2 0).toNat ∧
    3 < (([0, 1, 0, 4] : List Byte).getD 3 0).toNat ∧ frameGood good = true ∧
    (good.getD 3 0).toNat = 0 := by unfold Running; decide +kernel

/-- A frame of one slot: signal 0 at 110.0 °C with sequence 2. -/
def oneSlot : List Byte := [0, 1, 1, 0, 0, 0x04, 0x4C, 0x20, 0x30]

theorem witness_freshSample :
    let l := oneSlot ++ put16 (crc16 oneSlot).toNat
    frameGood l = true ∧ (l.getD 3 0).toNat = 0 ∧ slotOf plant 0 = some 0 ∧
    (readFrame l).slots[0]? = some ⟨1100, 2, 0, 0x30⟩ ∧ (-500 : Int) ≤ 1100 ∧ (1100 : Int) ≤ 6000 ∧
    (signal plant 0).lastSeq ≠ some 2 ∧ slotOf State.reset 0 = none ∧ slotOf plant 32 = none ∧
    slotOf (tabled fun b => { b with slotMap := full (some 100) (maps.set 63 (some ⟨32, 0, .produced, none,
      none⟩)) }) 32 = some 0 ∧ 0 < (l.getD 2 0).toNat := by decide +kernel

theorem witness_segments :
    let g (i : Nat) (last : Bool) (n : Nat) : Segment := ⟨4, i, last, n, List.replicate n 0⟩
    let whole : List Byte := [19, 4, 0, 0] ++ put16 (crc16 [19, 4, 0, 0]).toNat
    let s (r : Reassembly) : State := { plant with mge := { plant.mge with reassembly := r } }
    (¬ ((g 0 true 33).length ≤ 32) ∧ ¬ (1 ≤ (g 0 true 0).length) ∧
      ¬ ((g 15 false 32).index = 15 → (g 15 false 32).last = true)) ∧
    ((g 0 false 32).length ≤ 32 ∧ (g 0 false 32).index = 0 ∧ (g 0 true 5).payload.length < 6) ∧
    checkRecord 4 whole = .request .identRead ∧ checkRecord 4 (whole.take 4 ++ whole.drop 4) = .request .identRead ∧
    ((s .idle).mge.reassembly = .idle ∧ (s (.discarding 9)).mge.reassembly = .discarding 9 ∧
      (s (.collecting 4 1 (whole.take 4))).mge.reassembly = .collecting 4 1 (whole.take 4)) ∧
    (g 2 false 8).index ≠ 1 ∧ plant.mge.response = none ∧
    (⟨1, 1, 0, [], List.replicate 35 0⟩ : Frame).areaState = 1 := by decide +kernel

/-- The plant's pumps at their targets, so that every condition of the entry permit holds. -/
def opened : State := potted fun x => { x with
  chip := ⟨100, 100, none⟩, main := ⟨600, 600, none⟩ }

theorem witness_admission :
    let t := settle opened
    (t.mdc.mode = .run ∧ t.mdc.notReady = false ∧ t.ilu.standing = 0 ∧ t.trk.ring = [] ∧
      t.ilu.nextBoard = some ⟨0, 0, false⟩ ∧ activeRecipe t 0 = some recipeA ∧ t.trk.queue.length < 24) ∧
    (t.ilu.entryPermit = true ∧ t.ilu.permit = true) ∧
    (settle plant).ilu.reason = .pot ∧ (settle (moded .config)).mdc.mode ≠ .run ∧
    (settle (ringed [⟨7, 0, none, true⟩])).trk.ring = [⟨7, 0, none, true⟩] := by decide +kernel

theorem witness_maintLineEdge :
    let s := moded .maintenance
    Running s ∧ s.lines.maint = true ∧ s.mdc.mode = .maintenance ∧ s.lines.maint ≠ false ∧
    (plant.mdc.mode ≠ .maintenance ∧ plant.lines.maint ≠ false) := by unfold Running; decide +kernel

theorem witness_modeSet :
    let s := moded .config
    (Running s ∧ s.mdc.mode ≠ .starting ∧ s.mdc.mode ≠ .run ∧ s.lst.block ≠ none ∧
      s.tbs.slotMap.committed = true ∧ s.tbs.geometry.committed = true ∧ s.tbs.loop.committed = true ∧
      s.tbs.gate.committed = true ∧ s.tbs.phase.committed = true ∧ s.tbs.pot.committed = true ∧
      s.tbs.extraction.committed = true ∧ s.tbs.action.committed = true) ∧
    (∀ n ∈ [0, 4], ¬ (n = 1 ∨ n = 2 ∨ n = 3)) ∧ State.reset.mdc.mode = .starting ∧
    (unkeyed.mdc.mode ≠ .starting ∧ unkeyed.mdc.mode ≠ .maintenance ∧ unkeyed.lines.maint = false) ∧
    ((queued [boardA]).mdc.mode = .run ∧ (queued [boardA]).trk.queue ≠ []) ∧
    ({ s with lst := { s.lst with block := none } } : State).lst.block = none ∧
    State.reset.tbs.slotMap.committed = false := by unfold Running; decide +kernel

theorem witness_startRead :
    let s (l : List Byte) := { State.reset with lst := Lst.afterReset l }
    let b : Block := { block with lockoutMin := 9 }
    (Running (s []) ∧ (s []).mdc.mode = .starting ∧ (s []).lst.op = some (.startRead 0) ∧
      ∀ h : HoodId, (getHood (s []) h).runningSince = none) ∧
    readBlock (s []).lst.storage = none ∧
    (readBlock (s (putBlock block)).lst.storage = some block ∧ block.inRange = true) ∧
    readBlock (s (putBlock b)).lst.storage = some b ∧ b.inRange = false := by unfold Running; decide +kernel

theorem witness_limitsWrite :
    let f : LimitsFields := ⟨Vector.replicate 7 6000, Vector.replicate 3 1000, 600, #v[1, 10000]⟩
    ((∀ l : LoopId, 0 ≤ f.hardMax[l] ∧ f.hardMax[l] ≤ 6000) ∧ (∀ p : PhaseId, f.ceiling[p] ≤ 1000) ∧
      (10 ≤ f.lockoutMin ∧ f.lockoutMin ≤ 600) ∧
      ∀ h : HoodId, 1 ≤ f.service[h] ∧ f.service[h] ≤ 10000) ∧
    ¬ ((10 : Nat) ≤ 9) ∧ (Running plant ∧ plant.lines.maint = true ∧ plant.mdc.mode ≠ .starting ∧
      plant.lst.op = none ∧ plant.lst.block = some block ∧ readBlock plant.lst.storage = some block) ∧
    unkeyed.lines.maint = false ∧ State.reset.mdc.mode = .starting ∧
    (storing (.save 999990 block)).lst.op ≠ none := by unfold Running; decide +kernel

theorem witness_storageCompletions :
    (Running (storing (.write 999960 block)) ∧
      (storing (.write 999960 block)).lst.op = some (.write 999960 block) ∧
      (storing (.save 999960 block)).lst.op = some (.save 999960 block)) ∧
    (block.inRange = true ∧ (∀ h : HoodId, block.hours[h] < 2 ^ 32) ∧ block.writeCount < 2 ^ 16) ∧
    readBlock [] = none := by unfold Running; decide +kernel

theorem witness_limitsBlock :
    let b : Block := ⟨Vector.replicate 7 (-32768), Vector.replicate 3 65535, 4294967295,
      #v[4294967295, 0], #v[4294967295, 0], 65535⟩
    ((∀ l : LoopId, -32768 ≤ b.hardMax[l] ∧ b.hardMax[l] < 32768) ∧ (∀ p : PhaseId, b.ceiling[p] < 2 ^ 16) ∧
      b.lockoutMin < 2 ^ 32 ∧ (∀ h : HoodId, b.hours[h] < 2 ^ 32 ∧ b.service[h] < 2 ^ 32) ∧
      b.writeCount < 2 ^ 16) ∧ readBlock (putBlock b) = some b := by decide +kernel

theorem witness_tableContents :
    WellFormed.mapEntry ⟨255, 255, .produced, none, some 4294967295⟩ = true ∧
    WellFormed.geometry { geo with nozzleLead := -2147483648, lengthTol := 4294967295 } = true ∧
    WellFormed.loopEntry { loopE with idle := -32768, umax := 65535 } = true ∧
    WellFormed.gateEntry ⟨none, some 2, some 65535, some 255, none⟩ = true ∧
    WellFormed.phaseEntry ⟨4294967295, 65535⟩ = true ∧ WellFormed.recipeHeader ⟨some 255, true⟩ = true ∧
    WellFormed.recipe { recipeA with bandMin := -32768, speedMax := 32767 } = true ∧
    WellFormed.fluxMap ⟨0, 0, List.replicate 128 0xFF⟩ = true ∧ WellFormed.nozzleHeader ⟨0, 65535⟩ = true ∧
    WellFormed.nozzleEntry ⟨4294967295, false⟩ = true ∧
    WellFormed.potEntry { potE with levelRef := -32768, maxDwell := 4294967295 } = true ∧
    WellFormed.extractionEntry { hoodE with hotThreshold := some (-1) } = true ∧
    WellFormed.actionEntry ⟨255, .untilRead, true⟩ = true := by decide +kernel

/-! Witnesses of the statements on what an event of the process brings about. -/

/-- A board of length 1,500 whose leading location in the plant is `lead`. -/
def boardAt (lead : Nat) : Board :=
  { boardA with data := { boardA.data with pIn := 100000 - BitVec.ofNat 32 lead } }

/-- The board with its spray window in a state. -/
def spraying (b : Board) (x : WindowState) : Board := { b with windows := { b.windows with spray := x } }

/-- The plant with one more alarm slot as named. -/
def alarmed (k : SlotId) (x : AlarmSlot) : State := updSlot plant k fun _ => x

/-- The plant with an action class of the test's own for one slot. -/
def classed (k : SlotId) (c : Nat) : State :=
  tabled fun b => { b with
    action := full none (b.action.active.entries.set k (some ⟨c, .onLive, false⟩)) }

theorem witness_due :
    Due plant .speedSample ∧ Due (sprayed .test 998000) (.stuckValveExpiry 3) ∧
      ¬ Due (sprayed .test 998001) (.stuckValveExpiry 3) ∧ ¬ Due plant .powerOnReset := by
  refine ⟨rfl, ⟨_, rfl, by decide +kernel⟩, ?_, id⟩
  rintro ⟨iv, h, d⟩
  cases h
  exact absurd d (by decide +kernel)

theorem witness_positionChange :
    let s (high p : Pos) := tracked fun k => { k with
      queue := [boardA], high := high, exitEye := .pending p 999000, entryEye := .pending p 999000 }
    (Running (s 100000 99981) ∧ activeGeometry (s 100000 99981) = some geo ∧
      ((s 100000 99981).trk.queue.map fun x => x.data.pIn).Nodup) ∧
    (((true, false) : Bool × Bool) = nextPair (plant.lines.encA, plant.lines.encB) ∧
      geo.countsPerMetre ≤ plant.trk.remainder + 10000 ∧ (100001 : Pos) = plant.trk.pos + 1 ∧
      (0 : Nat) = plant.trk.remainder + 10000 - geo.countsPerMetre) ∧
    ((plant.lines.encA, plant.lines.encB) = nextPair (false, true) ∧ plant.trk.remainder < 10000 ∧
      (99999 : Pos) = plant.trk.pos - 1 ∧ (0 : Nat) = plant.trk.remainder + geo.countsPerMetre - 10000) ∧
    ((geo.confirm : Int) ≤ ((100001 : Pos) - 99981).toInt ∧
      ¬ (geo.confirm : Int) ≤ ((100001 : Pos) - 99982).toInt) ∧
    (50 < ((100050 : Pos) - 99999).toInt ∧ ¬ 50 < ((100049 : Pos) - 99999).toInt) := by
  unfold Running; decide +kernel

/-- R8: the count forward that brings an eye to the confirm distance confirms it. -/
theorem test_eye_confirmed :
    let s := tracked fun k => { k with exitEye := .pending 99981 999000 }
    (after (.encoderCount true false) s).trk.exitEye = .confirmed := by decide +kernel

/-- R6, R12: a window opens with the board's leading edge at it, and closes with its trailing edge past it;
CONVEYOR_REVERSE is live more than 50 dmm below the highest position. -/
theorem test_windows_and_reverse :
    let spray (b : Board) := (judgeAllWindows (queued [b])).trk.queue.map fun x => x.windows.spray
    let back (high : Pos) := (judgeReverse (tracked fun k => { k with high := high })).ilu.slots[slotReverse]
    [4999, 5000].map (fun n => spray (boardAt n)) = [[.before], [.opened]] ∧
    [6500, 6501].map (fun n => spray (spraying (boardAt n) .opened)) = [[.opened], [.closed]] ∧
    (back 100051).live = true ∧ (back 100050).live = false := by decide +kernel

theorem witness_sprayAccounts :
    let one (b : Board) := queued [b]
    let b := boardAt 6501
    let account (d : Disposition) (v : Nat) (u : Bool) : State :=
      let s := one (spraying b .closed)
      { s with flx := { s.flx with
        accounts := [⟨b.data.pIn, d, v, u⟩]
        nozzles := s.flx.nozzles.set 3 ⟨some ⟨.board b.data.pIn, 999900, 100, 2000, u⟩, false, none, none⟩ } }
    let x := account .toSpray 33200 false
    (findBoard (one (boardAt 5000)) (boardAt 5000).data.pIn = some (boardAt 5000) ∧
      (boardAt 5000).windows.spray = .before ∧ (5000 : Int) ≤ leading plant (boardAt 5000).data ∧
      ¬ (5000 : Int) ≤ leading plant (boardAt 4999).data) ∧
    (findBoard (one (spraying b .opened)) b.data.pIn = some (spraying b .opened) ∧
      5000 < trailing plant b.data ∧ ¬ 5000 < trailing plant (boardAt 6500).data) ∧
    (accountOf x b.data.pIn = some ⟨b.data.pIn, .toSpray, 33200, false⟩ ∧
      findBoard x b.data.pIn = some (spraying b .closed) ∧ (33200 : Nat) ≤ 4294967295 ∧
      boardRecipe x b.data = some recipeA ∧ 33200 + 100 * 100 = 48000 * (100 - 10) / 100) ∧
    (∀ d : Disposition, ∀ u : Bool,
      accountOf (account d 42800 u) b.data.pIn = some ⟨b.data.pIn, d, 42800, u⟩) ∧
    (42800 + 100 * 100 = 48000 * (100 + 10) / 100 ∧ (3 : Nat) ≠ 2) := by
  refine ⟨by decide +kernel, by decide +kernel, by decide +kernel, ?_, by decide +kernel⟩
  rintro (_ | _ | _ | _) (_ | _) <;> decide +kernel

/-- R55, R52: the outcomes at the edges of the tolerance, with the volume of the valve still open; a board in
doubt is UNCERTAIN and a purged one cut short. -/
theorem test_flux_account :
    let b := boardAt 6501
    let closed (d : Disposition) (v : Nat) (u purged : Bool) : Option FluxPart :=
      let s := queued [spraying b .closed]
      let s := { s with flx := { s.flx with
        accounts := [⟨b.data.pIn, d, v, u⟩]
        nozzles := s.flx.nozzles.set 3 ⟨some ⟨.board b.data.pIn, 999900, 100, 2000, false⟩, false, none, none⟩ } }
      (findBoard (windowClosed s .spray b.data purged) b.data.pIn).bind fun x => x.data.flux
    closed .toSpray 33199 false false = some ⟨.low, 43199⟩ ∧
    closed .toSpray 33200 false false = some ⟨.ok, 43200⟩ ∧
    closed .toSpray 42801 false false = some ⟨.high, 52801⟩ ∧
    closed .toSpray 33200 true false = some ⟨.uncertain, 43200⟩ ∧
    closed .toSpray 33200 false true = some ⟨.cutShort, 43200⟩ ∧
    closed .noMap 0 false true = some ⟨.none, 10000⟩ := by decide +kernel

theorem witness_sprayBar :
    let b := spraying (boardAt 5100) .opened
    let s : State := { queued [b] with flx := { plant.flx with
      accounts := [⟨b.data.pIn, .toSpray, 0, false⟩] } }
    (activeGeometry s = some geo ∧ (settle s).trk.queue = [b] ∧
      (5000 : Int) ≤ leading (settle s) b.data ∧ trailing (settle s) b.data < 5000) ∧
    ([0, 1, 2, 3].map fun n : NozzleId => (getNozzle (settle s) n).valve.map fun iv => iv.owner) =
      [some (.board b.data.pIn), some (.board b.data.pIn), none, none] ∧
    (activeGeometry plant = some geo ∧ (settle plant).trk.queue = []) ∧
    ((getNozzle (sprayed (.board 98000) 999900) 3).valve = some ⟨.board 98000, 999900, 100, 2000, false⟩ ∧
      (getNozzle plant 3).inForce = some ⟨100, true⟩ ∧
      plant.tbs.nozzle.active.header = some ⟨2000, 50⟩ ∧ (signal plant sigFlux).state = .valid ∧
      (signal plant sigFlux).fresh = some 999700 ∧ Running plant ∧
      (mapOf plant 8).bind (fun m => m.hold) = some 300 ∧ 300 ≤ elapsed plant.now 999700 ∧
      (49 : Int) < 50) := by unfold Running; decide +kernel

theorem witness_contactInterval :
    let run (b : Board) : State := { queued [b] with
      pot := { plant.pot with contact := some ⟨b.data.pIn, 412, 999000, false, false⟩ } }
    let begun (b : Board) : Board := { b with contactBegun := true }
    let s := queued [begun (boardAt 33000), boardAt 32000]
    (activeGeometry (run (boardAt 33500)) = some geo ∧
      ((run (boardAt 33500)).trk.queue.map fun x => x.data.pIn).Nodup ∧
      findBoard (run (boardAt 33500)) (boardAt 33500).data.pIn = some (boardAt 33500) ∧
      ¬ (32000 : Int) < trailing (run (boardAt 33500)) (boardAt 33500).data) ∧
    (findBoard (run (boardAt 33501)) (boardAt 33501).data.pIn = some (boardAt 33501) ∧
      (32000 : Int) < trailing (run (boardAt 33501)) (boardAt 33501).data ∧
      (run (boardAt 33501)).trk.completions.length ≤ 16) ∧
    (s.pot.contact = none ∧ (s.trk.queue.map fun x => x.data.pIn).Nodup ∧
      s.trk.queue = [begun (boardAt 33000)] ++ boardAt 32000 :: [] ∧
      (∀ x ∈ [begun (boardAt 33000)], ¬ x.contactBegun = false) ∧
      (32000 : Int) ≤ leading s (boardAt 32000).data ∧ trailing s (boardAt 32000).data ≤ 32000 ∧
      (boardAt 32000).contactBegun = false ∧ ¬ (32000 : Int) ≤ leading plant (boardAt 31999).data) ∧
    (s.pot.state = .ready ∧ boardRecipe s (boardAt 32000).data = some recipeA ∧
      (getLoop s loopP).pv = some 1100 ∧ (1100 : Int) < recipeA.bandMin) := by decide +kernel

theorem witness_composedSetpoints :
    let zoned (x : WindowState) : Board := { boardA with windows := { boardA.windows with
      zone := boardA.windows.zone.set 2 x } }
    let s := queued [zoned .closed, zoned .opened]
    (∀ b ∈ (queued [boardA]).trk.queue, b.windows.zone[2] ≠ .opened) ∧
    (s.trk.queue = [zoned .closed] ++ zoned .opened :: [] ∧
      (∀ y ∈ [zoned .closed], y.windows.zone[2] ≠ .opened) ∧ (zoned .opened).windows.zone[2] = .opened ∧
      boardRecipe s boardA.data = some recipeA ∧ activeLoop s (zoneLoop 2) = some loopE) ∧
    activeLoop State.reset (zoneLoop 2) = none ∧ activePot plant = some potE ∧
    activePot State.reset = none ∧ (potted fun x => { x with state := .setback }).pot.state = .setback ∧
    ((getLoop (settle (looped 0 fun x => { x with pv := some 1130, inBand := true })) 0).inBand = true ∧
      (getLoop (settle (looped 0 fun x => { x with pv := some 1130 })) 0).settleFrom = some 1000000 ∧
      (getLoop (settle (looped 0 fun x => { x with pv := some 1131, inBand := true })) 0).inBand = false) := by
  decide +kernel

theorem witness_zoneSample :
    let s := queued [boardAt 9000, boardAt 12500, boardAt 12501]
    ((getLoop s (zoneLoop 0)).mode = .active ∧ hardMax s (zoneLoop 0) = some 3000 ∧ (3000 : Int) < 3001) ∧
    activeGeometry State.reset = none ∧ activeGeometry s = some geo ∧
    (s.trk.queue[0]? = some (boardAt 9000) ∧ (9000 : Int) ≤ leading s (boardAt 9000).data ∧
      trailing s (boardAt 12500).data ≤ 11000 ∧ ¬ trailing s (boardAt 12501).data ≤ 11000) ∧
    ((boardAt 9000).data.preheat[0] = none ∧
      ((freshSample s (zoneSignal 0) 1130 2 0x30).trk.queue.map fun b => b.data.preheat[0]) =
        [some ⟨1130, 1130, true⟩, some ⟨1130, 1130, true⟩, none]) := by decide +kernel

theorem witness_potSample :
    let dipped : State := { queued [boardAt 33000] with
      pot := { plant.pot with contact := some ⟨(boardAt 33000).data.pIn, 412, 999000, false, false⟩ } }
    let alone := signalled sigPB fun g => { g with state := .lost }
    ((signal plant sigPB).state = .valid ∧ (signal plant sigPB).value = some 1100 ∧
      activePot plant = some potE ∧ |(1130 : Int) - 1100| ≤ potE.disagree ∧
      ¬ |(1131 : Int) - 1100| ≤ potE.disagree ∧ (1100 : Int) < 1131 ∧ (1069 : Int) < 1100) ∧
    ¬ ((signal alone sigPB).state = .valid ∨ (signal alone sigPB).state = .held) ∧
    (dipped.pot.contact = some ⟨(boardAt 33000).data.pIn, 412, 999000, false, false⟩ ∧
      findBoard dipped (boardAt 33000).data.pIn = some (boardAt 33000) ∧
      boardRecipe dipped (boardAt 33000).data = some recipeA ∧ (2299 : Int) < recipeA.bandMin ∧
      ¬ (2300 : Int) < recipeA.bandMin) ∧ plant.pot.contact = none ∧
    (getLoop plant loopP).mode = .active ∧
    clamped plant loopP potE.runSp - potE.startMargin = 2450 ∧
    (freshSample alone sigPA 1200 2 0x30).ilu.slots[slotPotDegraded] = ⟨true, true, 7⟩ := by decide +kernel

theorem witness_levelSample :
    let s (f : Feeder) (n : Nat) : State := potted fun x => { x with
      main := ⟨550, 550, none⟩, feeder := f, feedOnCount := n }
    let up := #v[⟨0, 0⟩, ⟨400, 150⟩, ⟨700, 420⟩, ⟨1000, 800⟩]
    let out := s .off 2
    (IsOffset up 550 285 ∧ IsOffset up 1000 800 ∧ IsOffset up 0 0) ∧
    (IsOffset potE.breakpoints 550 18 ∧ activePot out = some potE ∧ activeGeometry out = some geo ∧
      out.trk.queue = [] ∧ out.pot.main.command = out.pot.main.target ∧
      ∀ i j : Fin 4, i < j → potE.breakpoints[i].speed < potE.breakpoints[j].speed) ∧
    ((5000 - 5082 - 18 : Int) = potE.feedOn ∧ (5000 - 4882 - 18 : Int) = potE.feedOff ∧
      (5000 - 5482 - 18 : Int) = potE.lowLow ∧ (5000 - 4482 - 18 : Int) = potE.highHigh) ∧
    ((s (.on 5) 2).pot.feeder = .on 5 ∧ FedSince (s (.on 5) 2) 5 ∧ FedSince (s (.jog 5 100) 2) 5 ∧
      min 3 (out.pot.feedOnCount + 1) = 3 ∧ out.pot.feederEnabled = true ∧ out.pot.state = .ready ∧
      latest (signalled sigFeed fun g => { g with value := some 1 }) sigFeed = some 1 ∧
      latest plant sigFeed = some 1100) ∧
    (activePot State.reset = none ∧ plant.pot.main = ⟨0, 0, none⟩ ∧
      (⟨1, 2, none⟩ : PumpState).command ≠ (⟨1, 2, none⟩ : PumpState).target) := by
  refine ⟨by unfold IsOffset; decide +kernel, ⟨by unfold IsOffset; decide +kernel, by decide +kernel⟩,
    by decide +kernel, ⟨rfl, .inl rfl, .inr ⟨100, rfl⟩, by decide +kernel⟩, by decide +kernel⟩

theorem witness_extractionSamples :
    let s := signalled (sigDuct 0) fun g => { g with state := .held, fresh := some 998000 }
    let breathing (a : Nat) (live : Bool) : State :=
      updSlot (updHood plant 0 fun x => { x with airflow := some a }) (slotExtractLow 0) fun _ =>
        ⟨live, live, 0⟩
    ((32767 : Int) ≤ 32767 ∧ activeExtraction plant 0 = some hoodE ∧ activeExtraction State.reset 0 = none ∧
      ((181 : Nat) : Int) * 181 ≤ max 0 32767 ∧ max 0 32767 < (((181 : Nat) : Int) + 1) * (181 + 1)) ∧
    (Running s ∧ (signal s (sigDuct 0)).state = .held ∧ (signal s (sigDuct 0)).fresh = some 998000 ∧
      (mapOf s (sigDuct 0).val).bind (fun m => m.lost) = some 2000 ∧ 2000 ≤ elapsed s.now 998000) ∧
    ((breathing 599 false).ilu.slots[slotExtractLow 0].live = false ∧
      ((getHood (settle (breathing 600 true)) 0).debounce.map fun d => d.towardLow) = some false) := by
  unfold Running; decide +kernel

theorem witness_halfCycleStages :
    let fired : State := { updPhase plant 0 fun x => { x with lastEdge := some 999996 } with
      ilu := { plant.ilu with permit := true }
      fal := { plant.fal with gates := Vector.replicate 16 ⟨500, false⟩ }
      lpu := ⟨Vector.replicate 7 { warm with demand := 500 }, .none⟩ }
    (Running fired ∧ activePhase fired 0 = some ⟨50, 300⟩ ∧ 4 ≤ elapsed fired.now 999996) ∧
    Running plant ∧ (getPhase plant 0).lastEdge = none ∧ plant.lst.limits = some (limitsOf block) ∧
    ((getPhase (after (.zeroCrossEdge 0) fired) 0).last.map fun r => (r.granted, r.used, r.denied)) =
      some ([0, 1, 2], 300, 4) := by unfold Running; decide +kernel

theorem witness_phaseLossDropsPermit :
    let s := { classed (slotPhaseLost 0) 5 with ilu := { plant.ilu with permit := true } }
    let t := updPhase s 0 fun x => { x with frequency := some 50, lastEdge := some 999970 }
    t.ilu.permit = true ∧ 5 ≤ effectiveAction t (slotPhaseLost 0) ∧
      ¬ 5 ≤ effectiveAction plant (slotPhaseLost 0) ∧
      (after (.phaseLossExpiry 0) t).ilu.permit = false := by decide +kernel

theorem witness_standingAction : ActionSettled plant ∧
    ActionSettled { classed slotSpeed 5 with
      ilu := { plant.ilu with slots := plant.ilu.slots.set slotEstop ⟨true, true, 0⟩ } } :=
  ⟨⟨0, .inl rfl, by unfold Judged; decide +kernel⟩,
    ⟨5, .inr ⟨slotEstop, by unfold Judged; decide +kernel, by decide +kernel, by decide +kernel⟩,
      by unfold Judged; decide +kernel⟩⟩

theorem witness_speedAlarm :
    let slow := { queued [boardA] with
      tbs := { tables with recipe := full none ((Vector.replicate 16 none).set 0
        (some { recipeA with speedMin := 1 })) } }
    (boardRecipe slow boardA.data = some { recipeA with speedMin := 1 } ∧ slow.trk.speed < 1 ∧
      slow.trk.queue = [] ++ boardA :: []) ∧ Running slow ∧ slow.now = slow.trk.nextSample ∧
    (settleSpeed slow).ilu.slots[slotSpeed] = ⟨true, true, 412⟩ ∧
    (activeAction plant 5 = some ⟨0, .onLive, false⟩ ∧ activeAction State.reset 5 = none) := by
  unfold Running; decide +kernel

theorem witness_tableValidation :
    let phased (v : Vector (Option PhaseEntry) 3) := tabled fun b => { b with phase := { b.phase with staged := ⟨none, v⟩ } }
    let doubled := maps.set 1 (some ⟨0, 1, .consumed, some 300, some 2000⟩)
    let mapped_ (h : Option Nat) := tabled fun b => { b with slotMap := { b.slotMap with staged := ⟨h, doubled⟩ } }
    let pots := tabled fun b => { b with pot := { b.pot with
      staged := ⟨none, #v[some { potE with runSp := 1999 }]⟩ } }
    let cooked := tabled fun b => { b with recipe := { b.recipe with staged := ⟨some ⟨none, false⟩,
      (Vector.replicate 16 none).set 0 (some { recipeA with fluxMap := some 7 })⟩ } }
    ((validate plant 1, validate plant 6, validate plant 11) = (none, none, none)) ∧
    validate (phased #v[some ⟨50, 300⟩, none, some ⟨50, 300⟩]) 5 = some ⟨.entry 1, 0, none, .missing⟩ ∧
    validate (phased #v[some ⟨60, 1000⟩, some ⟨55, 1001⟩, none]) 5 = some ⟨.entry 1, 0, none, .fixed⟩ ∧
    validate (phased #v[some ⟨60, 1001⟩, none, none]) 5 = some ⟨.entry 0, 1, none, .outOfRange⟩ ∧
    validate (mapped_ none) 1 = some ⟨.header, 0, none, .missing⟩ ∧
    validate (mapped_ (some 500)) 1 = some ⟨.entry 1, 0, none, .duplicate⟩ ∧
    validate pots 9 = some ⟨.entry 0, 1, none, .order⟩ ∧
    validate cooked 6 = some ⟨.entry 0, 0, none, .reference⟩ ∧ activeMap cooked 7 = none ∧
    Blocks { cooked with trk := { plant.trk with queue := [boardA] } } 6 0 ∧ ¬ Blocks cooked 6 1 := by
  refine ⟨by decide +kernel, by decide +kernel, by decide +kernel, by decide +kernel, by decide +kernel,
    by decide +kernel, by decide +kernel, by decide +kernel, by decide +kernel,
    ⟨0, rfl, .inr ⟨boardA, List.mem_singleton.2 rfl, by decide +kernel⟩, by decide +kernel⟩, ?_⟩
  rintro ⟨r, -, ⟨a, h, -⟩ | ⟨b, h, -⟩, -⟩
  · exact absurd h List.not_mem_nil
  · exact absurd h List.not_mem_nil

/-- R43, R92: what a commit of the phase and of the nozzle table puts in force at once. -/
theorem test_commits_in_force :
    let fresh : State := updPhase cold 0 fun x => { x with frequency := none }
    let old : State := updNozzle cold 3 fun x => { x with inForce := some ⟨90, true⟩ }
    (getPhase (after (.tableCommit 1 5) fresh) 0).frequency = some 50 ∧
    (getNozzle (after (.tableCommit 1 8) old) 3).inForce = some ⟨100, true⟩ := by decide +kernel

theorem witness_doubtAtCommit :
    let s (x : SignalState) (v : Int) := signalled sigFlux fun g => { g with state := x, value := some v }
    (signal (s .held 100) sigFlux).state ≠ .valid ∧ (signal (s .valid 49) sigFlux).state = .valid ∧
      (signal (s .valid 49) sigFlux).value = some 49 ∧
      (s .valid 49).tbs.nozzle.staged.header = some ⟨2000, 50⟩ ∧ (49 : Int) < 50 ∧
      (getNozzle (sprayed .test 999000) 3).valve ≠ none ∧ (getNozzle plant 3).valve = none := by
  decide +kernel

theorem witness_signalBreaks :
    let slot (q v : Nat) : Slot := ⟨BitVec.ofNat 16 v, 2, q, 0x30⟩
    ((slot 0 6001).value.toInt = 6001 ∧ (slot 0 65035).value.toInt = -501 ∧
      (slot 0 65036).value.toInt = -500) ∧ ((1 : Nat) < 8 ∧ (slot 1 0).quality = 1 ∧ (slot 2 0).quality = 2) ∧
    (slot 15 0).quality ≠ 0 ∧ (signal plant 0).lastSeq = some 1 ∧
    (maps[18] = some ⟨18, 18, .consumed, some 300, some 2000⟩ ∧ (1 : Nat) ≤ 18) ∧
    (slotOf plant 18 = some 18 ∧ slotOf plant 32 = none) ∧
    (plant.tbs.slotMap.active.entries[0] = some ⟨0, 0, .consumed, some 300, some 2000⟩) := by decide +kernel

theorem witness_managementArea :
    let whole : List Byte := [20, 4, 0, 0] ++ put16 (crc16 [20, 4, 0, 0]).toNat
    let f (a : Byte) : Frame := { readFrame oneSlot with
      areaState := 2, areaAddr := a, area := [4, 0x80, 6] ++ whole ++ List.replicate 26 0 }
    plant.mdc.strap = 17 ∧ (f 17).areaState = 2 ∧ (f 17).areaAddr = plant.mdc.strap.setWidth 8 ∧
    (f 18).areaAddr ≠ plant.mdc.strap.setWidth 8 ∧
    takeSegment .idle ⟨4, 0, true, 6, whole⟩ = .complete true whole ∧
    checkRecord 4 whole = .request .reset ∧ frameResets plant (f 17) = true ∧
    (stageManage plant { f 17 with area := [4, 0x00, 6] ++ whole ++ List.replicate 26 0 }).2.areaState = 1 := by
  decide +kernel

/-! Witnesses of what the data sheet derives at every event, and of records, saves and ages in their cases. -/

theorem witness_exitOfNone :
    plant.mdc.mode = .run ∧ plant.trk.queue = [] ∧ (moded .config).mdc.mode ≠ .run ∧
    (confirmExit plant geo 147850 5).ilu.slots[slotPhantom] = ⟨false, true, 0⟩ := by decide +kernel

theorem witness_pumpTargets :
    let dipped := { boardA with windows := { boardA.windows with boost := .opened, chip := .opened } }
    let s := queued [boardA, dipped]
    (s.trk.queue = [boardA] ++ dipped :: [] ∧ (∀ x ∈ [boardA], x.windows.boost ≠ .opened) ∧
      dipped.windows.boost = .opened ∧ dipped ∈ s.trk.queue ∧ dipped.windows.chip = .opened ∧
      boardRecipe s dipped.data = some recipeA ∧ recipeA.chipUse = true ∧ activePot s = some potE ∧
      s.pot.state = .ready ∧ s.ilu.slots[slotLevelLow].live = false ∧ s.pot.contact = none) ∧
    ((settle s).ilu.standing < 4 ∧ (settle s).pot.chip.target = 500 ∧ (settle s).pot.main.target = 700) ∧
    (((settle opened).pot.chip, (settle opened).pot.main.target) = (⟨100, 100, some 1000000⟩, 600) ∧
      (signal opened (sigPump .chip)).state = .valid ∧
      (signal opened (sigPump .chip)).value = some 1100 ∧ (potE.pumpTol : Int) < |1100 - 100|) ∧
    (potted fun x => { x with state := .off }).pot.state = .off := by decide +kernel

theorem witness_hoodsAndFilters :
    let hot := looped 6 fun x => { x with pv := some 1500 }
    let t := settle plant
    (plant.mdc.mode = .run ∧ (∀ b ∈ plant.trk.queue, b.windows.spray ≠ .opened) ∧
      (∀ n : NozzleId, (getNozzle t n).valve = none) ∧ t.flx.dwellFrom = none ∧
      (getHood t hoodF).level = .reduced) ∧
    ((signal plant sigPA).state = .valid ∧ (getLoop plant loopP).pv = some 1100 ∧
      activeExtraction plant hoodP = some hoodPE ∧ hoodPE.hotThreshold = some 1500 ∧
      (getHood t hoodP).level = .least ∧ (getLoop hot loopP).pv = some 1500) ∧
    activeExtraction State.reset hoodF = none ∧
    (0 < (getHood t hoodF).fan ∧ (getHood plant hoodF).runningSince = none ∧
      (getHood plant hoodF).accumulator < 360000 ∧ (getHood t hoodF).runningSince = some 1000000) := by
  decide +kernel

theorem witness_savesHanded :
    let lean : State := { plant with lst := { plant.lst with block := none } }
    let whole := updHood plant 0 fun x => { x with hours := 9, runningSince := some 640000 }
    (lean.lst.limits ≠ none ∧ lean.lst.block = none) ∧
    ((storing (.save 999990 block)).lst.op ≠ none ∧ (storing (.save 999990 block)).lst.block = some block) ∧
    (plant.lst.op = none ∧ plant.lst.block = some block) ∧
    (Running whole ∧ (getHood whole 0).accumulator + elapsed whole.now 640000 = 360000 ∧
      ((getHood whole 0).hours + 1) % 10 = 0 ∧
      (after (.filterTenthHour 0) whole).lst.op = some (.save 1000000 { block with hours := #v[10, 6] })) := by
  unfold Running; decide +kernel

/-- The plant too slow for its board, with slot 60 of class 4 and HOLD_UNTIL_READ. -/
def paused : State :=
  { queued [boardA] with tbs := { tables with
      recipe := full none ((Vector.replicate 16 none).set 0 (some { recipeA with speedMin := 1 }))
      action := full none (tables.action.active.entries.set slotSpeed (some ⟨4, .untilRead, false⟩)) } }

theorem witness_standingAction_untilRead :
    (activeAction paused slotSpeed = some ⟨4, .untilRead, false⟩ ∧
      (∀ k : SlotId, Judged k → k ≠ slotSpeed → effectiveAction paused k ≤ 0) ∧
      (∀ k : SlotId, stands paused k = true → effectiveAction paused k < 4) ∧
      paused.mdc.mode = .run ∧ paused.ilu.slots[slotSpeed] = ⟨false, false, 0⟩ ∧
      boardRecipe paused boardA.data = some { recipeA with speedMin := 1 } ∧ paused.trk.speed < 1) ∧
    (settleSpeed paused).ilu.slots[slotSpeed] = ⟨false, true, 412⟩ ∧
    (settleSpeed paused).ilu.standing = 4 := by
  unfold Judged; decide +kernel

theorem witness_signalAges_potAndFeeder :
    let s (i : SignalId) (o : SignalState) : State :=
      updSignal (updSignal plant sigPB fun g => { g with state := o }) i fun g =>
        { g with state := .held, fresh := some 998000 }
    let both := after (.lostTimeExpiry 6) (s sigPA .lost)
    let one := after (.lostTimeExpiry 6) (s sigPA .valid)
    let fed : State := { s sigFeed .valid with pot := { plant.pot with feeder := .on 990000 } }
    (Running (s sigPA .lost) ∧ (signal (s sigPA .lost) sigPB).state = .lost ∧
      mapOf (s sigPA .lost) 6 = some ⟨6, 6, .consumed, some 300, some 2000⟩ ∧
      (signal (s sigPA .lost) sigPA).state = .held ∧ (signal (s sigPA .lost) sigPA).fresh = some 998000 ∧
      2000 ≤ elapsed (s sigPA .lost).now 998000 ∧ (getLoop (s sigPA .lost) loopP).mode = .active ∧
      both.pot.state = .fault ∧ both.ilu.slots[slotSensorLost loopP] = ⟨true, true, 6⟩) ∧
    ((signal (s sigPA .valid) sigPB).value = some 1100 ∧ hardMax (s sigPA .valid) loopP = some 3000 ∧
      one.ilu.slots[slotPotDegraded] = ⟨true, true, 6⟩) ∧
    ((signal (s sigPA .absent) sigPB).state = .absent ∧ mapped (s sigPA .absent) sigPB = true) ∧
    (mapOf fed sigFeed = some ⟨12, 12, .consumed, some 300, some 2000⟩ ∧ FedSince fed 990000 ∧
      (after (.lostTimeExpiry 12) fed).pot.feeder = .off ∧ (after (.lostTimeExpiry 12) fed).pot.grams = 100) := by
  refine ⟨by unfold Running; decide +kernel, by decide +kernel, by decide +kernel, by decide +kernel, .inl rfl,
    by decide +kernel⟩

theorem witness_checkOfRecords :
    let crced (l : List Byte) : List Byte := l ++ put16 (crc16 l).toNat
    checkRecord 4 [19, 4, 0, 0, 1] = .bad .length ∧ checkRecord 4 [19, 4, 0, 1, 0, 0] = .bad .length ∧
    checkRecord 4 [19, 4, 0, 0, 0, 0] = .bad .crc ∧ checkRecord 5 (crced [19, 4, 0, 0]) = .bad .format ∧
    checkRecord 4 (crced [147, 4, 0, 0]) = .bad .format ∧
    checkRecord 4 (crced [21, 4, 0, 0]) = .unknownKind 21 ∧
    checkRecord 4 (crced [0, 4, 0, 0]) = .unknownKind 0 ∧
    checkRecord 4 (crced [19, 4, 0, 1, 0]) = .bad .format ∧
    checkRecord 4 (crced [2, 4, 0, 4, 3, 1, 0xFF, 9]) =
      .request (.tableStage (.loop [.header (.filled ())])) := by decide +kernel

theorem witness_badSegments :
    let rec_ (l : List Byte) : List Byte := l ++ put16 (crc16 l).toNat
    let g (i : Nat) (l : List Byte) : Segment := ⟨4, i, true, l.length, l⟩
    let s : State := { plant with mge := { plant.mge with reassembly := .collecting 4 1 [19, 4, 0] } }
    (segmentArrives plant (g 0 [19, 4, 0, 0, 0, 0])).mge.badRecords =  1 ∧
    (segmentArrives s (g 1 [0, 0, 0])).mge.reassembly = .idle ∧
    ((segmentArrives plant (g 0 (rec_ [21, 4, 0, 0]))).mge.response.map fun r => r.kind) = some 21 ∧
    checkRecord 4 ([19, 4, 0] ++ [0, 0, 0]) = .bad .crc := by decide +kernel

theorem witness_savesWaiting :
    let s (o : StoreOp) : State := { storing o with lst := { (storing o).lst with waiting := #v[some 70, none] } }
    (∃ h : HoodId, (s (.write 999960 block)).lst.waiting[h] ≠ none) ∧
    (after (.writeCompletion none) (s (.write 999960 block))).lst.op =
      some (.save 1000000 { block with hours := #v[70, 6] }) ∧
    (∀ h : HoodId, (getHood plant h).runningSince = none ∧ plant.lst.waiting[h] = none) ∧
    AccumulatorLaw plant := by unfold AccumulatorLaw; decide +kernel

theorem witness_judgedAlarms :
    let b := spraying (boardAt 5100) .opened
    let fan := updSignal plant (sigFan 0) fun g => { g with value := some 49 }
    let low := updSignal (updSignal fan 2 fun g => { g with state := .lost }) sigFlux fun g =>
      { g with value := some 49 }
    let s := updHood (updHood { low with
      trk := (queued [b]).trk
      flx := { plant.flx with accounts := [⟨b.data.pIn, .toSpray, 0, false⟩] } }
      0 fun x => { x with requirement := some 1600, fan := 800 }) 1 fun x => { x with hours := 10000 }
    (s.trk.queue = [] ++ b :: [] ∧ b.windows.spray = .opened ∧ (getLoop s 2).mode ≠ .off ∧
      (signal s 2).state = .lost ∧ (signal s sigFlux).value = some 49 ∧
      s.tbs.nozzle.active.header = some ⟨2000, 50⟩ ∧ (signal s (sigFan 0)).value = some 49 ∧
      s.lst.limits = some (limitsOf block) ∧ (limitsOf block).service = some #v[1000, 1000]) ∧
    [slotSensorLost 2, slotFluxPressure, slotFanStopped 0, slotServiceDue].map
      (fun k => (settle s).ilu.slots[k]) =
      [⟨true, true, 2⟩, ⟨true, true, 412⟩, ⟨true, true, 49⟩, ⟨true, true, 1⟩] := by decide +kernel

theorem witness_loopCommit :
    let s (t0 : Time) : State :=
      { looped 0 fun x => { x with window := some ⟨t0, 1051⟩, demand := 950, integral := 250000 } with
        tbs := { tables with loop := { tables.loop with
          staged := ⟨none, Vector.replicate 7 (some { loopE with umax := 900, runawayWindow := 30 })⟩ } } }
    let t := after (.tableCommit 1 3) (s 970001)
    (Running (s 970000) ∧ validate (s 970000) 3 = none ∧ inUse (s 970000) 3 = none ∧
      30 * 1000 ≤ elapsed (s 970000).now 970000 ∧ (getLoop (s 970000) 0).pv = some 1100 ∧
      loopHeld (s 970000) 0 = false ∧ (1100 : Int) - 1051 < loopE.runawayRise) ∧
    (getLoop (after (.tableCommit 1 3) (s 970000)) 0).mode = .fault ∧
    ¬ 30 * 1000 ≤ elapsed (s 970001).now 970001 ∧
    ((getLoop t 0).mode, (getLoop t 0).demand, (getLoop t 0).integral) = (.active, 900, 230400) := by
  unfold Running; decide +kernel

theorem witness_potStopInJog :
    let s := potted fun x => { x with feeder := .jog 990000 500 }
    FedSince s 990000 ∧ s.pot.state ≠ .off ∧ activePot s = some potE ∧
      (after (.potCommandStop 1) s).pot.grams = 100 := ⟨.inr ⟨500, rfl⟩, by decide +kernel⟩

theorem witness_startReadWhileCounting :
    let s := updHood { State.reset with lst := Lst.afterReset (putBlock block) } 0 fun x =>
      { x with runningSince := some 0, accumulator := 360000 }
    (s.mdc.mode = .starting ∧ s.lst.op = some (.startRead 0) ∧ (getHood s 0).runningSince = some 0 ∧
      (getHood s 1).runningSince = none ∧ (getHood s 1).accumulator < 360000) ∧
    ((after .startReadCompletion s).exu.hoods.map fun x => x.hours) = #v[6, 6] := by decide +kernel

theorem witness_filterSample :
    (65535 : Int) ≤ 65535 ∧ activeExtraction plant 1 = some hoodPE ∧ (hoodPE.maxDrop : Int) ≤ 65535 ∧
    (freshSample plant (sigFilter 1) 65535 2 0x30).ilu.slots[slotFilterBlocked 1] = ⟨true, true, 65535⟩ := by
  decide +kernel

/-! The laws hold of a state that is not empty, from which a step answers a next state. -/

/-- The plant with a board, an announcement, and gate 0 firing under PERMIT. -/
def busyPlant : State := { plant with
  trk := { plant.trk with queue := [boardA], ring := [⟨7, 0, none, false⟩], entered := 1 }
  fal := { plant.fal with gates := plant.fal.gates.set 0 ⟨2000, true⟩ }
  ilu := { plant.ilu with permit := true, entryPermit := true, slots := plant.ilu.slots.set 6 ⟨true, true, 3⟩ } }

theorem witness_stepFromBusyPlant : step busyPlant = .next (tick busyPlant) := rfl

theorem witness_tracking : Tracking busyPlant ∧ TagsDistinct busyPlant := by
  unfold Tracking TagsDistinct; decide +kernel

theorem witness_latchedAndSetback : LatchedWhileLive busyPlant ∧ SetbackLaw busyPlant ∧
    SetbackLaw (potted fun x => { x with state := .setback }) := by
  unfold LatchedWhileLive SetbackLaw; decide +kernel

theorem witness_firing : CreditsBounded busyPlant ∧ FiringLaw busyPlant := by
  refine ⟨by unfold CreditsBounded; decide +kernel, fun g h => ⟨rfl, ?_⟩⟩
  have only : ∀ g : GateId, busyPlant.fal.gates[g].firing = true → g = 0 := by decide +kernel
  obtain rfl := only g h
  exact ⟨gateE 0 0, 0, 0, by decide +kernel⟩

theorem witness_interlocks : AdmissionLaw busyPlant ∧ FumeLaw busyPlant ∧ PermitLaw busyPlant := by
  unfold AdmissionLaw FumeLaw PermitLaw; decide +kernel

theorem witness_loopLimits : SetpointLaw busyPlant ∧ DemandLaw busyPlant := by
  constructor
  · intro l sp m hs hm
    have all : ∀ l : LoopId, busyPlant.lpu.loops[l].setpoint = some 1100 ∧ hardMax busyPlant l = some 3000 := by
      decide +kernel
    obtain ⟨a, b⟩ := all l
    rw [a] at hs
    rw [b] at hm
    cases hs
    cases hm
    decide
  · intro l e he
    have all : ∀ l : LoopId, activeLoop busyPlant l = some loopE ∧ busyPlant.lpu.loops[l].integral = 0 ∧
        busyPlant.lpu.loops[l].demand = 0 := by decide +kernel
    obtain ⟨a, b, c⟩ := all l
    rw [b, c]
    exact ⟨Nat.zero_le _, Nat.zero_le _⟩

theorem witness_accumulators : AccumulatorLaw busyPlant ∧ AccumulatorLaw State.reset := by
  unfold AccumulatorLaw; decide +kernel

/-- The plant with a nozzle test running on nozzle 3 under a pressure that is too low. -/
def testing : State :=
  let s := { sprayed .test 999900 with flx := { (sprayed .test 999900).flx with test := some ⟨3, 500⟩ } }
  updSignal s sigFlux fun g => { g with value := some 49 }

theorem witness_classAndTest : ClassLaw busyPlant ∧ TestLaw testing ∧ Running testing ∧
    testing.tbs.nozzle.active.header = some ⟨2000, 50⟩ ∧
    step testing = .next (tick testing) := by
  refine ⟨fun k e h => ?_, fun n d h => ?_, rfl, by decide +kernel, rfl⟩
  · have all : ∀ k : SlotId, (activeAction busyPlant k).map (fun e => e.cls) = some 0 := by decide +kernel
    have c := all k
    rw [h] at c
    exact (Option.some.inj c).trans_le (Nat.zero_le 5)
  · cases h
    exact ⟨⟨.test, 999900, 100, 2000, false⟩, by decide +kernel, rfl⟩

end Sys2Proof.Tests
end

section
/-! SUPPORT. What one round of judgements does to the parts of the state, judgement by judgement, and how
`settle` is made of rounds: whatever a round and CONVEYOR_SPEED keep holds before the last round, and the state
after `settle` is that last round with the outputs and the entry permit taken again. -/

namespace Sys2Proof.SelectiveFluxing

open Sys2Proof.Machine Sys2Proof.Safety

/-! ### Folds over the fixed indexes -/

/-- What each step of a fold keeps, the fold keeps. -/
theorem foldl_keeps {α β : Type} (proj : State → β) (f : State → α → State)
    (h : ∀ s a, proj (f s a) = proj s) (l : List α) (s : State) : proj (l.foldl f s) = proj s := by
  induction l generalizing s with
  | nil => rfl
  | cons a l ih => rw [List.foldl_cons, ih, h]

/-- What each step of a fold preserves holds after it. -/
theorem foldl_preserves {α : Type} (P : State → Prop) (f : State → α → State)
    (h : ∀ s a, P s → P (f s a)) (l : List α) (s : State) (hs : P s) : P (l.foldl f s) := by
  induction l generalizing s with
  | nil => exact hs
  | cons a l ih => exact ih _ (h _ _ hs)

/-- Steps that are not about the index a leave what is a's own. -/
theorem foldl_others {α β : Type} (proj : State → β) (f : State → α → State) (a : α)
    (h : ∀ s b, b ≠ a → proj (f s b) = proj s) (l : List α) (ha : a ∉ l) (s : State) :
    proj (l.foldl f s) = proj s := by
  induction l generalizing s with
  | nil => rfl
  | cons b l ih =>
    rw [List.mem_cons, not_or] at ha
    rw [List.foldl_cons, ih ha.2, h _ _ (Ne.symm ha.1)]

/-- A fold over distinct indexes acts on what is index a's own in a's step alone. -/
theorem foldl_own {α β : Type} (proj : State → β) (P : State → Prop) (f : State → α → State) (a : α)
    (other : ∀ s b, b ≠ a → proj (f s b) = proj s) (keep : ∀ s b, P s → P (f s b))
    {l : List α} (nodup : l.Nodup) (mem : a ∈ l) {s : State} (hs : P s) :
    ∃ u, P u ∧ proj u = proj s ∧ proj (l.foldl f s) = proj (f u a) := by
  obtain ⟨l₁, l₂, rfl⟩ := List.append_of_mem mem
  obtain ⟨-, nodup₂, disjoint⟩ := List.nodup_append.mp nodup
  have h₁ : a ∉ l₁ := fun h => disjoint a h a (List.mem_cons_self ..) rfl
  have h₂ : a ∉ l₂ := (List.nodup_cons.mp nodup₂).1
  refine ⟨l₁.foldl f s, foldl_preserves P f keep l₁ s hs, foldl_others proj f a other l₁ h₁ s, ?_⟩
  rw [List.foldl_append, List.foldl_cons, foldl_others proj f a other l₂ h₂]

theorem mem_allNozzles (n : NozzleId) : n ∈ allNozzles := by revert n; decide
theorem nodup_allNozzles : allNozzles.Nodup := by decide
theorem mem_allLoops (l : LoopId) : l ∈ allLoops := by revert l; decide
theorem nodup_allLoops : allLoops.Nodup := by decide
theorem mem_allSignals (i : SignalId) : i ∈ allSignals := by revert i; decide

/-! ### FLX's operations change FLX alone -/

/-- The states differ in FLX alone. -/
def FlxOnly (s t : State) : Prop := t = { s with flx := t.flx }

theorem FlxOnly.refl (s : State) : FlxOnly s s := rfl

theorem FlxOnly.trans {s t u : State} (h : FlxOnly s t) (k : FlxOnly t u) : FlxOnly s u := by
  unfold FlxOnly at *; rw [k, h]

theorem FlxOnly.exu {s t : State} (h : FlxOnly s t) : t.exu = s.exu := by rw [h]
theorem FlxOnly.fal {s t : State} (h : FlxOnly s t) : t.fal = s.fal := by rw [h]
theorem FlxOnly.ilu {s t : State} (h : FlxOnly s t) : t.ilu = s.ilu := by rw [h]
theorem FlxOnly.trk {s t : State} (h : FlxOnly s t) : t.trk = s.trk := by rw [h]
theorem FlxOnly.tbs {s t : State} (h : FlxOnly s t) : t.tbs = s.tbs := by rw [h]
theorem FlxOnly.now {s t : State} (h : FlxOnly s t) : t.now = s.now := by rw [h]

theorem foldl_flxOnly {α : Type} (f : State → α → State) (h : ∀ s a, FlxOnly s (f s a)) (l : List α)
    (s : State) : FlxOnly s (l.foldl f s) :=
  foldl_preserves (FlxOnly s) f (fun _ _ hs => hs.trans (h _ _)) l s (FlxOnly.refl s)

theorem openValve_flxOnly (s : State) (n : NozzleId) (o : ValveOwner) : FlxOnly s (openValve s n o) := rfl

theorem closeValve_flxOnly (s : State) (n : NozzleId) : FlxOnly s (closeValve s n) := by
  unfold closeValve; split <;> rfl

theorem closeValves_flxOnly (s : State) (p : Interval → Bool) : FlxOnly s (closeValves s p) := by
  refine foldl_flxOnly _ (fun s n => ?_) _ _
  split
  · split
    · exact closeValve_flxOnly s n
    · rfl
  · rfl

theorem endTest_flxOnly (s : State) (c : TestEnd) : FlxOnly s (endTest s c) := by
  unfold endTest; split
  · rfl
  · split
    · rfl
    · exact (closeValve_flxOnly s _).trans rfl

theorem inhibitNow_flxOnly (s : State) : FlxOnly s (inhibitNow s) :=
  ((endTest_flxOnly s _).trans (closeValves_flxOnly _ _)).trans rfl

theorem reevaluateNozzle_flxOnly (s : State) (n : NozzleId) : FlxOnly s (reevaluateNozzle s n) := by
  have shut : FlxOnly s (shutUnwanted s n) := by
    unfold shutUnwanted; split
    · split
      · rfl
      · exact closeValve_flxOnly s n
    · rfl
  refine shut.trans ?_
  unfold reevaluateNozzle openWanted; split
  · split <;> rfl
  · rfl

theorem reevaluateValves_flxOnly (s : State) : FlxOnly s (reevaluateValves s) :=
  foldl_flxOnly _ reevaluateNozzle_flxOnly _ _

theorem markDoubt_flxOnly (s : State) : FlxOnly s (markDoubt s) := by
  unfold markDoubt; split <;> rfl

theorem expireDwell_flxOnly (s : State) : FlxOnly s (expireDwell s) := by
  unfold expireDwell; split <;> rfl

theorem judgeFluxing_flxOnly (s : State) : FlxOnly s (judgeFluxing s) := rfl

/-- The judgement of the bar but for its alarm: valves, doubt, dwell and fluxing active. -/
theorem judgeBar_flxOnly (s : State) :
    FlxOnly s (judgeFluxing (expireDwell (markDoubt (reevaluateValves s)))) :=
  (((reevaluateValves_flxOnly s).trans (markDoubt_flxOnly _)).trans (expireDwell_flxOnly _)).trans
    (judgeFluxing_flxOnly _)

/-! ### EXU's counting changes EXU and the Limits Store alone -/

/-- The states differ in EXU and the Limits Store alone. -/
def ExuOnly (s t : State) : Prop := t = { s with exu := t.exu, lst := t.lst }

theorem ExuOnly.refl (s : State) : ExuOnly s s := rfl

theorem ExuOnly.trans {s t u : State} (h : ExuOnly s t) (k : ExuOnly t u) : ExuOnly s u := by
  unfold ExuOnly at *; rw [k, h]

theorem ExuOnly.fal {s t : State} (h : ExuOnly s t) : t.fal = s.fal := by rw [h]
theorem ExuOnly.ilu {s t : State} (h : ExuOnly s t) : t.ilu = s.ilu := by rw [h]

theorem setRequirement_exuOnly (s : State) (h : HoodId) : ExuOnly s (setRequirement s h) := by
  unfold setRequirement; split <;> rfl

theorem judgeAirflow_exuOnly (s : State) (h : HoodId) : ExuOnly s (judgeAirflow s h) := rfl

theorem handSave_exuOnly (s : State) (h : HoodId) (n : Nat) : ExuOnly s (handSave s h n) := by
  unfold handSave; split
  · rfl
  · split <;> rfl

theorem addTenth_exuOnly (s : State) (h : HoodId) : ExuOnly s (addTenth s h) := by
  unfold addTenth; simp only; split
  · exact (show ExuOnly s (updHood s h _) from rfl).trans (handSave_exuOnly _ _ _)
  · rfl

theorem accrue_exuOnly (s : State) (h : HoodId) : ExuOnly s (accrue s h) := by
  have repeated (n : Nat) (s : State) : ExuOnly s (Nat.repeat (fun s => addTenth s h) n s) := by
    induction n with
    | zero => rfl
    | succ n ih => exact ih.trans (addTenth_exuOnly _ _)
  unfold accrue; simp only; split
  · rfl
  · exact (show ExuOnly s (updHood s h _) from rfl).trans (repeated _ _)

theorem judgeCounting_exuOnly (s : State) (h : HoodId) : ExuOnly s (judgeCounting s h) := by
  unfold judgeCounting; split
  · rfl
  · exact (accrue_exuOnly s h).trans rfl
  · rfl

/-! ### The hoods, the gates and the standing action under the judgements of the other units -/

@[simp] theorem judgeSlot_standing (s : State) (k : SlotId) (c : Bool) (d : Int) :
    (judgeSlot s k c d).ilu.standing = s.ilu.standing := by
  unfold judgeSlot; split <;> rfl

@[simp] theorem lowerSlot_standing (s : State) (k : SlotId) : (lowerSlot s k).ilu.standing = s.ilu.standing := rfl

theorem passStanding_exu (s : State) : (passStanding s).exu = s.exu := by
  unfold passStanding; simp only; split
  · exact (inhibitNow_flxOnly _).exu
  · rfl

theorem passStanding_fal (s : State) : (passStanding s).fal = s.fal := by
  unfold passStanding; simp only; split
  · exact (inhibitNow_flxOnly _).fal
  · rfl

theorem passStanding_ilu (s : State) :
    (passStanding s).ilu = { s.ilu with standing := standingOf s } := by
  unfold passStanding; simp only; split
  · exact (inhibitNow_flxOnly _).ilu
  · rfl

theorem judgePermit_exu (s : State) : (judgePermit s).exu = s.exu := by
  unfold judgePermit; simp only; split <;> rfl

theorem judgePermit_slots (s : State) : (judgePermit s).ilu.slots = s.ilu.slots := by
  unfold judgePermit; simp only; split <;> rfl

theorem judgePermit_standing (s : State) : (judgePermit s).ilu.standing = s.ilu.standing := by
  unfold judgePermit; simp only; split <;> rfl

@[simp] theorem compose_exu (s : State) (l : LoopId) : (compose s l).exu = s.exu := by
  unfold compose; split <;> rfl

@[simp] theorem compose_fal (s : State) (l : LoopId) : (compose s l).fal = s.fal := by
  unfold compose; split <;> rfl

@[simp] theorem compose_ilu (s : State) (l : LoopId) : (compose s l).ilu = s.ilu := by
  unfold compose; split <;> rfl

@[simp] theorem judgeBand_exu (s : State) (l : LoopId) : (judgeBand s l).exu = s.exu := rfl
@[simp] theorem judgeBand_fal (s : State) (l : LoopId) : (judgeBand s l).fal = s.fal := rfl
@[simp] theorem judgeBand_ilu (s : State) (l : LoopId) : (judgeBand s l).ilu = s.ilu := rfl

theorem judgeLoops_exu (s : State) : (judgeLoops s).exu = s.exu :=
  foldl_keeps (fun u : State => u.exu) _ (fun _ _ => by simp [judgeSensor]) _ _

theorem judgeLoops_fal (s : State) : (judgeLoops s).fal = s.fal :=
  foldl_keeps (fun u : State => u.fal) _ (fun _ _ => by simp [judgeSensor]) _ _

theorem judgeLoops_standing (s : State) : (judgeLoops s).ilu.standing = s.ilu.standing := by
  unfold judgeLoops
  exact foldl_keeps (fun u : State => u.ilu.standing) _ (fun _ _ => by simp [judgeSensor]) _ _

/-- The judgement of a pump is about POT and the pump's slot: the slots stay, or the pump's is lowered. -/
theorem judgePump_beside (s : State) (p : Pump) : ∃ x : Pot,
    judgePump s p = { s with pot := x } ∨ judgePump s p = lowerSlot { s with pot := x } (slotPumpFault p) := by
  have put (y : PumpState) : ∃ x : Pot, setPump s p y = { s with pot := x } := by
    cases p
    · exact ⟨{ s.pot with chip := y }, rfl⟩
    · exact ⟨{ s.pot with main := y }, rfl⟩
  unfold judgePump; simp only
  split
  · split
    · exact ⟨s.pot, .inl rfl⟩
    · obtain ⟨x, hx⟩ := put { getPump s p with faultFrom := some s.now }
      exact ⟨x, .inl hx⟩
  · obtain ⟨x, hx⟩ := put { getPump s p with faultFrom := none }
    exact ⟨x, .inr (by rw [hx])⟩

@[simp] theorem judgePump_exu (s : State) (p : Pump) : (judgePump s p).exu = s.exu := by
  obtain ⟨x, h | h⟩ := judgePump_beside s p <;> simp [h]

@[simp] theorem judgePump_fal (s : State) (p : Pump) : (judgePump s p).fal = s.fal := by
  obtain ⟨x, h | h⟩ := judgePump_beside s p <;> simp [h]

@[simp] theorem judgePump_standing (s : State) (p : Pump) :
    (judgePump s p).ilu.standing = s.ilu.standing := by
  obtain ⟨x, h | h⟩ := judgePump_beside s p <;> simp [h]

theorem judgePot_exu (s : State) : (judgePot s).exu = s.exu := by simp [judgePot, judgeTargets]
theorem judgePot_fal (s : State) : (judgePot s).fal = s.fal := by simp [judgePot, judgeTargets]
theorem judgePot_standing (s : State) : (judgePot s).ilu.standing = s.ilu.standing := by
  simp [judgePot, judgeTargets]

@[simp] theorem judgePressure_exu (s : State) : (judgePressure s).exu = s.exu := by
  unfold judgePressure; split <;> simp

@[simp] theorem judgePressure_fal (s : State) : (judgePressure s).fal = s.fal := by
  unfold judgePressure; split <;> simp

@[simp] theorem judgePressure_standing (s : State) :
    (judgePressure s).ilu.standing = s.ilu.standing := by
  unfold judgePressure; split <;> simp

theorem judgeFlux_exu (s : State) : (judgeFlux s).exu = s.exu := by
  simp [judgeFlux, (judgeBar_flxOnly s).exu]

theorem judgeFlux_fal (s : State) : (judgeFlux s).fal = s.fal := by
  simp [judgeFlux, (judgeBar_flxOnly s).fal]

theorem judgeFlux_standing (s : State) : (judgeFlux s).ilu.standing = s.ilu.standing := by
  simp [judgeFlux, (judgeBar_flxOnly s).ilu]

theorem judgeFan_fal (s : State) (h : HoodId) : (judgeFan s h).fal = s.fal := judgeSlot_fal _ _ _ _

theorem judgeFan_standing (s : State) (h : HoodId) : (judgeFan s h).ilu.standing = s.ilu.standing :=
  judgeSlot_standing _ _ _ _

theorem judgeHood_fal (s : State) (h : HoodId) : (judgeHood s h).fal = s.fal := by
  simp only [judgeHood, (judgeCounting_exuOnly _ _).fal, judgeFan_fal, (judgeAirflow_exuOnly _ _).fal,
    (setRequirement_exuOnly _ _).fal]

theorem judgeHood_standing (s : State) (h : HoodId) :
    (judgeHood s h).ilu.standing = s.ilu.standing := by
  simp only [judgeHood, (judgeCounting_exuOnly _ _).ilu, judgeFan_standing, (judgeAirflow_exuOnly _ _).ilu,
    (setRequirement_exuOnly _ _).ilu]

theorem judgeExtraction_fal (s : State) : (judgeExtraction s).fal = s.fal := by
  simp [judgeExtraction, judgeService, judgeHood_fal]

theorem judgeExtraction_standing (s : State) :
    (judgeExtraction s).ilu.standing = s.ilu.standing := by
  simp [judgeExtraction, judgeService, judgeHood_standing]

theorem judgeSpeed_exu (s : State) : (judgeSpeed s).exu = s.exu := by
  unfold judgeSpeed; split <;> simp

theorem judgeSpeed_fal (s : State) : (judgeSpeed s).fal = s.fal := by
  unfold judgeSpeed; split <;> simp

/-- A round leaves the gates as they were, or stops all of them (R94). -/
theorem judgeRound_gates (s : State) : (judgeRound s).fal.gates = s.fal.gates ∨
    ∀ g : GateId, gateStopped (judgeRound s) g := by
  have same : (judgeRound s).fal = (judgePermit (passStanding s)).fal := by
    simp only [judgeRound, judgeExtraction_fal, judgeFlux_fal, judgePot_fal, judgeLoops_fal]
  unfold gateStopped
  rw [same]
  unfold judgePermit; simp only; split
  · right; intro g; simp [falStopAll, idleGates]
  · left; simp [passStanding_fal]

/-! ### The alarm slots under a round -/

/-- What a slot may do in a judgement: a latch stays, and a live slot was live or is latched. -/
def SlotGrows (x y : AlarmSlot) : Prop :=
  (x.latched = true → y.latched = true) ∧ (y.live = true → x.live = true ∨ y.latched = true)

/-- Every slot grows. -/
def SlotsGrow (s t : State) : Prop := ∀ k : SlotId, SlotGrows s.ilu.slots[k.val] t.ilu.slots[k.val]

theorem SlotGrows.refl (x : AlarmSlot) : SlotGrows x x := ⟨id, .inl⟩

theorem SlotsGrow.of_eq {s t : State} (h : t.ilu.slots = s.ilu.slots) : SlotsGrow s t := by
  intro k; rw [h]; exact SlotGrows.refl _

theorem SlotsGrow.trans {s t u : State} (h : SlotsGrow s t) (k : SlotsGrow t u) : SlotsGrow s u := by
  intro i
  obtain ⟨h1, h2⟩ := h i
  obtain ⟨k1, k2⟩ := k i
  refine ⟨fun x => k1 (h1 x), fun x => ?_⟩
  rcases k2 x with x | x
  · exact (h2 x).imp_right k1
  · exact .inr x

theorem FlxOnly.slotsGrow {s t : State} (h : FlxOnly s t) : SlotsGrow s t := .of_eq (by rw [h.ilu])
theorem ExuOnly.slotsGrow {s t : State} (h : ExuOnly s t) : SlotsGrow s t := .of_eq (by rw [h.ilu])

theorem updSlot_grows (s : State) (k : SlotId) (f : AlarmSlot → AlarmSlot) (hf : ∀ x, SlotGrows x (f x)) :
    SlotsGrow s (updSlot s k f) := by
  intro j
  by_cases e : j = k
  · subst e; rw [updSlot_same]; exact hf _
  · rw [updSlot_other s k j f e]; exact SlotGrows.refl _

theorem lowerSlot_grows (s : State) (k : SlotId) : SlotsGrow s (lowerSlot s k) :=
  updSlot_grows _ _ _ fun _ => ⟨id, fun h => by cases h⟩

theorem judgeSlot_grows (s : State) (k : SlotId) (c : Bool) (d : Int) : SlotsGrow s (judgeSlot s k c d) := by
  unfold judgeSlot; split
  · refine updSlot_grows _ _ _ fun x => ?_
    unfold AlarmSlot.raise; split
    · exact SlotGrows.refl _
    · exact ⟨fun _ => rfl, fun _ => .inr rfl⟩
  · exact lowerSlot_grows s k

theorem judgeLoops_grows (s : State) : SlotsGrow s (judgeLoops s) := by
  refine foldl_preserves (SlotsGrow s) _ (fun u l h => h.trans ?_) _ s (.of_eq rfl)
  exact SlotsGrow.trans (.of_eq (by simp)) (judgeSlot_grows _ _ _ _)

theorem judgePump_grows (s : State) (p : Pump) : SlotsGrow s (judgePump s p) := by
  obtain ⟨x, h | h⟩ := judgePump_beside s p <;> rw [h]
  · exact .of_eq rfl
  · exact SlotsGrow.trans (.of_eq rfl) (lowerSlot_grows _ _)

theorem judgePot_grows (s : State) : SlotsGrow s (judgePot s) := by
  have targets : SlotsGrow s (judgeTargets s) := .of_eq rfl
  exact (targets.trans (judgePump_grows _ .chip)).trans (judgePump_grows _ .main)

theorem judgePressure_grows (s : State) : SlotsGrow s (judgePressure s) := by
  unfold judgePressure; split
  · exact judgeSlot_grows _ _ _ _
  · exact lowerSlot_grows _ _

theorem judgeHood_grows (s : State) (h : HoodId) : SlotsGrow s (judgeHood s h) := by
  unfold judgeHood judgeFan
  exact (((setRequirement_exuOnly s h).trans (judgeAirflow_exuOnly _ h)).slotsGrow.trans
    (judgeSlot_grows _ _ _ _)).trans (judgeCounting_exuOnly _ h).slotsGrow

theorem judgeExtraction_grows (s : State) : SlotsGrow s (judgeExtraction s) := by
  unfold judgeExtraction judgeService
  exact ((judgeHood_grows s _).trans (judgeHood_grows _ _)).trans (judgeSlot_grows _ _ _ _)

theorem judgeSpeed_grows (s : State) : SlotsGrow s (judgeSpeed s) := by
  unfold judgeSpeed; split
  · exact judgeSlot_grows _ _ _ _
  · exact lowerSlot_grows _ _

/-- A slot stands that gives the standing action its class. -/
theorem exists_stands {s : State} {c : Nat} (hc : 0 < c) (h : c ≤ standingOf s) :
    ∃ k : SlotId, stands s k = true ∧ c ≤ effectiveAction s k := by
  have key (l : List SlotId) (a : Nat)
      (h : c ≤ l.foldl (fun a k => if stands s k then max a (effectiveAction s k) else a) a) :
      c ≤ a ∨ ∃ k : SlotId, stands s k = true ∧ c ≤ effectiveAction s k := by
    induction l generalizing a with
    | nil => exact .inl h
    | cons k l ih =>
      rw [List.foldl_cons] at h
      rcases ih _ h with h | h
      · split at h
        · next hk => exact (le_max_iff.mp h).imp_right fun h => ⟨k, hk, h⟩
        · exact .inl h
      · exact .inr h
  exact (key allSlots 0 h).resolve_left (by omega)

/-! ### settle as a run of rounds -/

/-- What a round and a judgement of CONVEYOR_SPEED keep. -/
structure RoundClosed (P : State → Prop) : Prop where
  round : ∀ {u : State}, P u → P (judgeRound u)
  speed : ∀ {u : State}, P u → P (judgeSpeed u)

/-- The state is that after a last round, from a state with P, and the outputs taken again. -/
def EndsFrom (P : State → Prop) (t : State) : Prop :=
  ∃ u, P u ∧ t = judgeAdmission (judgeOutputs (judgeRound u))

theorem judgeRounds_ends {P : State → Prop} (hP : RoundClosed P) (n : Nat) {s : State} (hs : P s) :
    ∃ u, P u ∧ judgeRounds (n + 1) s = judgeRound u := by
  induction n generalizing s with
  | zero =>
    refine ⟨s, hs, ?_⟩
    rw [judgeRounds]; split <;> rfl
  | succ n ih =>
    rw [judgeRounds]; split
    · exact ⟨s, hs, rfl⟩
    · exact ih (hP.round hs)

theorem judgeRounds_keeps {P : State → Prop} (hP : RoundClosed P) {s : State} (hs : P s) :
    P (judgeRounds Config.settleRounds s) := by
  obtain ⟨u, hu, e⟩ := judgeRounds_ends hP 7 hs
  exact e ▸ hP.round hu

theorem settleFrom_ends {P : State → Prop} (hP : RoundClosed P) (n known : Nat) {s : State} (hs : P s) :
    ∃ u, P u ∧ settleFrom n known s = judgeRound u := by
  induction n generalizing known s with
  | zero => exact judgeRounds_ends hP 7 hs
  | succ n ih =>
    unfold settleFrom; simp only; split
    · exact judgeRounds_ends hP 7 hs
    · exact ih _ (hP.speed (judgeRounds_keeps hP hs))

theorem settleWith_ends {P : State → Prop} (hP : RoundClosed P) (known : Nat) {s : State} (hs : P s) :
    EndsFrom P (settleWith known s) := by
  obtain ⟨u, hu, e⟩ := settleFrom_ends hP Config.settleRounds known hs
  exact ⟨u, hu, by rw [settleWith, e]⟩

/-- What a round and CONVEYOR_SPEED keep holds before the last round of `settle`. -/
theorem settle_ends {P : State → Prop} (hP : RoundClosed P) {s : State} (hs : P s) : EndsFrom P (settle s) :=
  settleWith_ends hP _ hs

theorem settleSpeed_ends {P : State → Prop} (hP : RoundClosed P) {s : State} (hs : P s) :
    EndsFrom P (settleSpeed s) :=
  settleWith_ends hP _ (hP.speed (judgeRounds_keeps hP hs))

/-- The states differ in the outputs and the entry permit alone. -/
theorem outputs_beside (s : State) : (judgeAdmission (judgeOutputs s)).flx = s.flx ∧
    (judgeAdmission (judgeOutputs s)).exu = s.exu ∧ (judgeAdmission (judgeOutputs s)).fal = s.fal ∧
    (judgeAdmission (judgeOutputs s)).ilu.slots = s.ilu.slots ∧
    (judgeAdmission (judgeOutputs s)).ilu.standing = s.ilu.standing := ⟨rfl, rfl, rfl, rfl, rfl⟩

/-- The states that a change of core leaves together. -/
theorem roundClosed_core (s : State) : RoundClosed fun u => u.core = s.core where
  round h := (judgeRound_core _).trans h
  speed h := (judgeSpeed_core _).trans h

theorem RoundClosed.and {P Q : State → Prop} (hP : RoundClosed P) (hQ : RoundClosed Q) :
    RoundClosed fun u => P u ∧ Q u where
  round h := ⟨hP.round h.1, hQ.round h.2⟩
  speed h := ⟨hP.speed h.1, hQ.speed h.2⟩

end Sys2Proof.SelectiveFluxing
end

section
/-! SUPPORT. One judgement of a hood, as a function of the hood (R134 to R138, R143, R144): the requirement
set, the debounce timer judged, the filter counted; and what `settle` makes of a hood. -/

namespace Sys2Proof.SelectiveFluxing

open Sys2Proof.Machine Sys2Proof.Safety

/-! ### Tenths of an hour (R144) -/

/-- Hours with n tenths added one by one, each saturating. -/
def withTenths (n hours : Nat) : Nat := if n = 0 then hours else min Config.max32 (hours + n)

theorem withTenths_zero (x : Nat) : withTenths 0 x = x := rfl

theorem withTenths_succ (n x : Nat) : min Config.max32 (withTenths n x + 1) = withTenths (n + 1) x := by
  unfold withTenths; split <;> simp <;> omega

/-- Hours a stands behind hours b: b is a, or a with some tenths added. -/
def HoursGrow (a b : Nat) : Prop := ∃ n, b = withTenths n a

theorem HoursGrow.refl (a : Nat) : HoursGrow a a := ⟨0, rfl⟩

theorem HoursGrow.trans {a b c : Nat} (h : HoursGrow a b) (k : HoursGrow b c) : HoursGrow a c := by
  obtain ⟨m, rfl⟩ := h
  obtain ⟨n, rfl⟩ := k
  refine ⟨m + n, ?_⟩
  unfold withTenths; split <;> split <;> split <;> omega

/-- Hours at or above a threshold at both ends are so in between. -/
theorem HoursGrow.above {a b c N : Nat} (h : HoursGrow a b) (k : HoursGrow b c) (ha : N ≤ a) (hc : N ≤ c) :
    N ≤ b := by
  obtain ⟨m, rfl⟩ := h
  obtain ⟨n, rfl⟩ := k
  revert hc
  unfold withTenths; split <;> split <;> omega

/-- Hours below a threshold at both ends are so in between. -/
theorem HoursGrow.below {a b c N : Nat} (h : HoursGrow a b) (k : HoursGrow b c) (ha : a < N) (hc : c < N) :
    b < N := by
  obtain ⟨m, rfl⟩ := h
  obtain ⟨n, rfl⟩ := k
  revert hc
  unfold withTenths; split <;> split <;> omega

theorem handSave_exu (s : State) (h : HoodId) (n : Nat) : (handSave s h n).exu = s.exu := by
  unfold handSave; split
  · rfl
  · split <;> rfl

theorem getHood_of_exu {s t : State} (e : t.exu = s.exu) (h : HoodId) : getHood t h = getHood s h := by
  unfold getHood; rw [e]

theorem addTenth_exu (s : State) (h : HoodId) : (addTenth s h).exu =
    (updHood s h fun x => { x with hours := min Config.max32 (x.hours + 1) }).exu := by
  have same : (updHood s h fun x => { x with hours := satAdd Config.max32 (getHood s h).hours 1 }).exu =
      (updHood s h fun x => { x with hours := min Config.max32 (x.hours + 1) }).exu := rfl
  unfold addTenth; simp only; split
  · rw [handSave_exu, same]
  · exact same

theorem getHood_addTenth (s : State) (h : HoodId) : getHood (addTenth s h) h =
    { getHood s h with hours := min Config.max32 ((getHood s h).hours + 1) } := by
  rw [getHood_of_exu (addTenth_exu s h), getHood_updHood]

theorem getHood_addTenth_other {s : State} {h j : HoodId} (ne : j ≠ h) :
    getHood (addTenth s h) j = getHood s j := by
  rw [getHood_of_exu (addTenth_exu s h), getHood_updHood_other _ _ _ _ ne]

theorem getHood_addTenths (n : Nat) (s : State) (h : HoodId) :
    getHood (Nat.repeat (fun s => addTenth s h) n s) h =
      { getHood s h with hours := withTenths n (getHood s h).hours } := by
  induction n with
  | zero => rfl
  | succ n ih => rw [Nat.repeat, getHood_addTenth, ih]; simp only [withTenths_succ]

theorem getHood_addTenths_other (n : Nat) {s : State} {h j : HoodId} (ne : j ≠ h) :
    getHood (Nat.repeat (fun s => addTenth s h) n s) j = getHood s j := by
  induction n with
  | zero => rfl
  | succ n ih => rw [Nat.repeat, getHood_addTenth_other ne, ih]

/-! ### Counting (R144) -/

/-- The time run since t accounted: to the accumulator, and each full tenth of an hour of it to the hours. -/
def accounted (now t : Time) (x : Hood) : Hood :=
  let total := x.accumulator + elapsed now t
  { x with
    accumulator := total % Config.tenthHour
    hours := withTenths (total / Config.tenthHour) x.hours }

theorem getHood_accrue {s : State} {h : HoodId} {t : Time} (e : (getHood s h).runningSince = some t) :
    getHood (accrue s h) h = { accounted s.now t (getHood s h) with runningSince := some s.now } := by
  unfold accrue; simp only [e, getHood_addTenths, getHood_updHood]; rfl

theorem getHood_accrue_other {s : State} {h j : HoodId} (ne : j ≠ h) :
    getHood (accrue s h) j = getHood s j := by
  unfold accrue; simp only; split
  · rfl
  · rw [getHood_addTenths_other _ ne, getHood_updHood_other _ _ _ _ ne]

/-- A hood after counting was judged: it starts with running since now, and its end accounts the time. -/
def counted (now : Time) (counts : Bool) (x : Hood) : Hood :=
  match counts, x.runningSince with
  | true, none => { x with runningSince := some now }
  | false, some t => { accounted now t x with runningSince := none }
  | _, _ => x

theorem getHood_judgeCounting (s : State) (h : HoodId) :
    getHood (judgeCounting s h) h = counted s.now (countingNow s h) (getHood s h) := by
  unfold judgeCounting counted
  cases hc : countingNow s h <;> cases hr : (getHood s h).runningSince <;> simp [getHood_accrue, hr]

theorem getHood_judgeCounting_other {s : State} {h j : HoodId} (ne : j ≠ h) :
    getHood (judgeCounting s h) j = getHood s j := by
  unfold judgeCounting; split
  · exact getHood_updHood_other _ _ _ _ ne
  · simp only; rw [getHood_updHood_other _ _ _ _ ne, getHood_accrue_other ne]
  · rfl

section
variable (now : Time) (c : Bool) (x : Hood)

@[simp] theorem counted_level : (counted now c x).level = x.level := by unfold counted; split <;> rfl
@[simp] theorem counted_requirement : (counted now c x).requirement = x.requirement := by
  unfold counted; split <;> rfl
@[simp] theorem counted_fan : (counted now c x).fan = x.fan := by unfold counted; split <;> rfl
@[simp] theorem counted_graceFrom : (counted now c x).graceFrom = x.graceFrom := by unfold counted; split <;> rfl
@[simp] theorem counted_debounce : (counted now c x).debounce = x.debounce := by unfold counted; split <;> rfl
@[simp] theorem counted_airflow : (counted now c x).airflow = x.airflow := by unfold counted; split <;> rfl

/-- Only the end of counting adds tenths. -/
theorem counted_hours : HoursGrow x.hours (counted now c x).hours := by
  unfold counted; split
  · exact HoursGrow.refl _
  · exact ⟨_, rfl⟩
  · exact HoursGrow.refl _

/-- A filter counts exactly with a running since (R144). -/
theorem counted_running : (counted now c x).runningSince ≠ none ↔ c = true := by
  cases c <;> cases e : x.runningSince <;> simp [counted, e]

end

/-! ### The debounce timer (R138) -/

/-- A hood after its airflow was judged: the table of R138. -/
def aired (now : Time) (live : Bool) (x : Hood) : Hood :=
  if x.requirement.isNone then x
  else if live then (if x.low then { x with debounce := none } else x.timeToward now false)
  else if x.low && x.graceFrom.isNone then x.timeToward now true
  else { x with debounce := none }

theorem getHood_judgeAirflow (s : State) (h : HoodId) : getHood (judgeAirflow s h) h =
    aired s.now (isLive s (slotExtractLow h)) (getHood s h) := getHood_updHood _ _ _

theorem timeToward_eq (now : Time) (b : Bool) (x : Hood) :
    ∃ d : Debounce, x.timeToward now b = { x with debounce := some d } ∧ d.towardLow = b ∧
      (d.start = now ∨ x.debounce = some d) := by
  unfold Hood.timeToward; split
  · next d hd =>
    split
    · next hb => exact ⟨d, by rw [← hd], hb, .inr hd⟩
    · exact ⟨⟨now, b⟩, rfl, rfl, .inl rfl⟩
  · exact ⟨⟨now, b⟩, rfl, rfl, .inl rfl⟩

/-- The judgement of the airflow changes the debounce timer alone, which it stops, starts now or leaves. -/
theorem aired_eq (now : Time) (live : Bool) (x : Hood) :
    ∃ d : Option Debounce, aired now live x = { x with debounce := d } ∧
      ∀ y, d = some y → y.start = now ∨ x.debounce = some y := by
  have timed (b : Bool) : ∃ d : Option Debounce, x.timeToward now b = { x with debounce := d } ∧
      ∀ y, d = some y → y.start = now ∨ x.debounce = some y := by
    obtain ⟨d, hd, -, hs⟩ := timeToward_eq now b x
    exact ⟨some d, hd, fun y e => Option.some.inj e ▸ hs⟩
  have stopped : ∃ d : Option Debounce, { x with debounce := none } = { x with debounce := d } ∧
      ∀ y, d = some y → y.start = now ∨ x.debounce = some y := ⟨none, rfl, fun _ e => nomatch e⟩
  unfold aired; split
  · exact ⟨x.debounce, rfl, fun _ => .inr⟩
  · split
    · split
      · exact stopped
      · exact timed false
    · split
      · exact timed true
      · exact stopped

section
variable (now : Time) (live : Bool) (x : Hood)

@[simp] theorem aired_level : (aired now live x).level = x.level := by obtain ⟨d, h, -⟩ := aired_eq now live x; rw [h]
@[simp] theorem aired_requirement : (aired now live x).requirement = x.requirement := by
  obtain ⟨d, h, -⟩ := aired_eq now live x; rw [h]
@[simp] theorem aired_fan : (aired now live x).fan = x.fan := by obtain ⟨d, h, -⟩ := aired_eq now live x; rw [h]
@[simp] theorem aired_graceFrom : (aired now live x).graceFrom = x.graceFrom := by
  obtain ⟨d, h, -⟩ := aired_eq now live x; rw [h]
@[simp] theorem aired_airflow : (aired now live x).airflow = x.airflow := by
  obtain ⟨d, h, -⟩ := aired_eq now live x; rw [h]
@[simp] theorem aired_hours : (aired now live x).hours = x.hours := by obtain ⟨d, h, -⟩ := aired_eq now live x; rw [h]
@[simp] theorem aired_accumulator : (aired now live x).accumulator = x.accumulator := by
  obtain ⟨d, h, -⟩ := aired_eq now live x; rw [h]
@[simp] theorem aired_runningSince : (aired now live x).runningSince = x.runningSince := by
  obtain ⟨d, h, -⟩ := aired_eq now live x; rw [h]

end

/-! ### The requirement (R136, R137) -/

/-- A hood after its requirement was set for the level, from its entry of the extraction table. -/
def required (now : Time) (lvl : HoodLevel) (entry : Option ExtractionEntry) (x : Hood) : Hood :=
  match entry with
  | none => { x with level := lvl, requirement := none, fan := 0 }
  | some e => { x with
      level := lvl
      requirement := some (reqAt e lvl)
      fan := fanAt e lvl
      graceFrom := if x.requirement.getD 0 < reqAt e lvl ∨ x.fan < fanAt e lvl then some now else x.graceFrom }

theorem getHood_setRequirement (s : State) (h : HoodId) : getHood (setRequirement s h) h =
    required s.now (levelOf s h) (activeExtraction s h) (getHood s h) := by
  unfold setRequirement required
  cases activeExtraction s h <;> exact getHood_updHood _ _ _

section
variable (now : Time) (lvl : HoodLevel) (entry : Option ExtractionEntry) (x : Hood)

@[simp] theorem required_level : (required now lvl entry x).level = lvl := by unfold required; split <;> rfl
@[simp] theorem required_debounce : (required now lvl entry x).debounce = x.debounce := by
  unfold required; split <;> rfl
@[simp] theorem required_hours : (required now lvl entry x).hours = x.hours := by unfold required; split <;> rfl
@[simp] theorem required_accumulator : (required now lvl entry x).accumulator = x.accumulator := by
  unfold required; split <;> rfl
@[simp] theorem required_runningSince : (required now lvl entry x).runningSince = x.runningSince := by
  unfold required; split <;> rfl

end

/-! ### A judgement of a hood whole -/

theorem fanState_congr {s t : State} (lnk : t.lnk = s.lnk) (tbs : t.tbs = s.tbs) (h : HoodId) :
    fanState t h = fanState s h := by
  unfold fanState latest mapped mapOf signal; rw [lnk, tbs]

/-- A hood after one judgement: requirement, airflow and counting in turn. -/
def judged (s : State) (h : HoodId) : Hood :=
  let x := aired s.now (isLive s (slotExtractLow h))
    (required s.now (levelOf s h) (activeExtraction s h) (getHood s h))
  counted s.now (decide (0 < x.fan) && fanState s h ≠ .stopped) x

theorem getHood_judgeHood (s : State) (h : HoodId) : getHood (judgeHood s h) h = judged s h := by
  have fan (u : State) : getHood (judgeFan u h) h = getHood u h := getHood_of_exu (judgeSlot_exu _ _ _ _) h
  have before : getHood (judgeAirflow (setRequirement s h) h) h = aired s.now (isLive s (slotExtractLow h))
      (required s.now (levelOf s h) (activeExtraction s h) (getHood s h)) := by
    have live : isLive (setRequirement s h) (slotExtractLow h) = isLive s (slotExtractLow h) := by
      unfold isLive; rw [(setRequirement_exuOnly s h).ilu]
    rw [getHood_judgeAirflow, getHood_setRequirement, live, core_now (setRequirement_core s h)]
  have core : (judgeFan (judgeAirflow (setRequirement s h) h) h).core = s.core := by simp
  unfold judgeHood judged
  simp only [getHood_judgeCounting, countingNow, fan, before, core_now core,
    fanState_congr (core_lnk core) (core_tbs core)]

theorem getHood_judgeHood_other {s : State} {h j : HoodId} (ne : j ≠ h) :
    getHood (judgeHood s h) j = getHood s j := by
  have fan (u : State) : getHood (judgeFan u h) j = getHood u j := getHood_of_exu (judgeSlot_exu _ _ _ _) j
  have req : getHood (setRequirement s h) j = getHood s j := by
    unfold setRequirement; simp only; split <;> exact getHood_updHood_other _ _ _ _ ne
  unfold judgeHood
  simp only [getHood_judgeCounting_other ne, fan]
  unfold judgeAirflow
  rw [getHood_updHood_other _ _ _ _ ne, req]

theorem extractLow_kept (h : HoodId) : judgedSlot (slotExtractLow h).val = false := by revert h; decide

/-- What a judgement of a hood reads beside the hood itself. -/
theorem judged_congr {s t : State} (core : t.core = s.core) (flx : t.flx.fluxing = s.flx.fluxing) (h : HoodId)
    (own : getHood t h = getHood s h) : judged t h = judged s h := by
  have live : isLive t (slotExtractLow h) = isLive s (slotExtractLow h) := by
    unfold isLive
    exact congrArg AlarmSlot.live (core_slot core (slotExtractLow h) (extractLow_kept h))
  have pv : (getLoop t loopP).pv = (getLoop s loopP).pv := 
    show (getLoop t loopP).core.pv = (getLoop s loopP).core.pv from congrArg Loop.pv (core_loop core loopP)
  have level : levelOf t h = levelOf s h := by
    unfold levelOf classOf mapped mapOf activeExtraction signal
    rw [flx, pv, core_mdc core, core_lnk core, core_tbs core]
  unfold judged activeExtraction
  rw [own, live, level, core_now core, core_tbs core, fanState_congr (core_lnk core) (core_tbs core)]

/-! ### The hoods after a round, and after settle -/

theorem hood_cases (h : HoodId) : h = hoodF ∨ h = hoodP := by revert h; decide

theorem judgeService_exu (s : State) : (judgeService s).exu = s.exu := judgeSlot_exu _ _ _ _

/-- The judgement of EXU judges each hood once. -/
theorem getHood_judgeExtraction (s : State) (h : HoodId) : getHood (judgeExtraction s) h = judged s h := by
  unfold judgeExtraction
  rw [getHood_of_exu (judgeService_exu _) h]
  rcases hood_cases h with rfl | rfl
  · rw [getHood_judgeHood_other (show hoodF ≠ hoodP by decide)]
    exact getHood_judgeHood s hoodF
  · refine (getHood_judgeHood _ hoodP).trans (judged_congr (judgeHood_core _ _) ?_ hoodP ?_)
    · unfold judgeHood judgeFan; simp [judgeAirflow]
    · exact getHood_judgeHood_other (show hoodP ≠ hoodF by decide)

/-- The state that a round hands to EXU. -/
def beforeExtraction (s : State) : State :=
  judgeFlux (judgePot (judgeLoops (judgePermit (passStanding s))))

theorem judgeRound_eq (s : State) : judgeRound s = judgeExtraction (beforeExtraction s) := rfl

theorem beforeExtraction_core (s : State) : (beforeExtraction s).core = s.core := by simp [beforeExtraction]

theorem beforeExtraction_exu (s : State) : (beforeExtraction s).exu = s.exu := by
  simp only [beforeExtraction, judgeFlux_exu, judgePot_exu, judgeLoops_exu, judgePermit_exu, passStanding_exu]

theorem getHood_beforeExtraction (s : State) (h : HoodId) :
    getHood (beforeExtraction s) h = getHood s h := getHood_of_exu (beforeExtraction_exu s) h

theorem getHood_judgeRound (s : State) (h : HoodId) :
    getHood (judgeRound s) h = judged (beforeExtraction s) h := getHood_judgeExtraction _ h

theorem judgeRound_flx (s : State) : (judgeRound s).flx = (beforeExtraction s).flx := judgeExtraction_flx _

/-- A law of hood h that every judgement of it keeps. -/
def HoodLaw (s : State) (h : HoodId) (P : Hood → Prop) : Prop :=
  ∀ u : State, u.core = s.core → P (getHood u h) → P (judged u h)

theorem HoodLaw.roundClosed {s : State} {h : HoodId} {P : Hood → Prop} (hP : HoodLaw s h P) :
    RoundClosed fun u => u.core = s.core ∧ P (getHood u h) where
  round := fun ⟨core, hu⟩ => ⟨(judgeRound_core _).trans core, by
    rw [getHood_judgeRound]
    exact hP _ ((beforeExtraction_core _).trans core) (by rwa [getHood_beforeExtraction])⟩
  speed := fun ⟨core, hu⟩ => ⟨(judgeSpeed_core _).trans core, by
    rwa [getHood_of_exu (judgeSpeed_exu _) h]⟩

/-- A hood after `settle` is one last judgement of a hood in which every kept law holds; the judgement reads
the fluxing active of the end. -/
theorem settle_hood {s : State} {h : HoodId} {P : Hood → Prop} (hP : HoodLaw s h P) (hs : P (getHood s h)) :
    ∃ u : State, u.core = s.core ∧ u.flx = (settle s).flx ∧ P (getHood u h) ∧
      getHood (settle s) h = judged u h := by
  obtain ⟨u, ⟨core, hu⟩, e⟩ := settle_ends hP.roundClosed ⟨rfl, hs⟩
  obtain ⟨flx, exu, -⟩ := outputs_beside (judgeRound u)
  rw [e, flx, getHood_of_exu exu h, getHood_judgeRound, judgeRound_flx]
  exact ⟨beforeExtraction u, (beforeExtraction_core u).trans core, rfl,
    by rwa [getHood_beforeExtraction], rfl⟩

end Sys2Proof.SelectiveFluxing
end

section
/-! SUPPORT. The frame of `settle` in the words of the statements, and the alarm slots that every round judges:
SENSOR_LOST (R80), FLUX_PRESSURE_LOW (R60), FAN_NOT_RUNNING (R143) and FILTER_SERVICE_DUE (R146). -/

namespace Sys2Proof.SelectiveFluxing

open Sys2Proof.Machine Sys2Proof.Safety

/-! ### The frames compose -/

theorem untouched_trans {s t u : State} (h : Untouched s t) (k : Untouched t u) : Untouched s u :=
  ⟨k.lines.trans h.lines, k.now.trans h.now, k.tbs.trans h.tbs, k.lnk.trans h.lnk, k.mdc.trans h.mdc,
    k.phases.trans h.phases, k.storage.trans h.storage, k.limits.trans h.limits, k.block.trans h.block,
    k.freeIndex.trans h.freeIndex, k.pending.trans h.pending⟩

theorem processOnly_trans {s t u : State} (h : ProcessOnly s t) (k : ProcessOnly t u) : ProcessOnly s u :=
  ⟨untouched_trans h.toUntouched k.toUntouched, k.trk.trans h.trk, k.mge.trans h.mge⟩

theorem potKept_trans {s t u : State} (h : PotKept s t) (k : PotKept t u) : PotKept s u :=
  ⟨k.state.trans h.state, k.readyAt.trans h.readyAt, k.idleFrom.trans h.idleFrom, k.contact.trans h.contact,
    k.level.trans h.level, k.feeder.trans h.feeder, k.feederEnabled.trans h.feederEnabled,
    k.grams.trans h.grams, k.chip.trans h.chip, k.main.trans h.main⟩

theorem potKept_of_eq {s t : State} (h : t.pot = s.pot) : PotKept s t := by
  constructor <;> rw [h]

theorem loopsKept_of_eq {s t : State} (h : t.lpu = s.lpu) (ls : List LoopId) : LoopsKept s t ls := by
  intro l _; unfold LoopKept getLoop; rw [h]; exact ⟨rfl, rfl, rfl, rfl, rfl, rfl⟩

theorem loopsKept_trans {s t u : State} {ls : List LoopId} (h : LoopsKept s t ls) (k : LoopsKept t u ls) :
    LoopsKept s u ls := by
  intro l hl
  obtain ⟨h1, h2, h3, h4, h5, h6⟩ := h l hl
  obtain ⟨k1, k2, k3, k4, k5, k6⟩ := k l hl
  exact ⟨k1.trans h1, k2.trans h2, k3.trans h3, k4.trans h4, k5.trans h5, k6.trans h6⟩

theorem framed_trans {s t u : State} {ks : List SlotId} {ls : List LoopId} {ns : List NozzleId}
    (h : Framed s t ks ls ns) (k : Framed t u ks ls ns) : Framed s u ks ls ns where
  loops := loopsKept_trans h.loops k.loops
  hoods := ⟨k.hoods.1.trans h.hoods.1, fun i =>
    ⟨(k.hoods.2 i).1.trans (h.hoods.2 i).1, (k.hoods.2 i).2.trans (h.hoods.2 i).2⟩⟩
  nozzles := fun n hn => (k.nozzles n hn).trans (h.nozzles n hn)
  slots := fun i hi hk => (k.slots i hi hk).trans (h.slots i hi hk)
  starve := fun l hl => (k.starve l hl).trans (h.starve l hl)
  gates := fun g => by
    rcases k.gates g with e | e
    · unfold gateStopped; rw [e]; exact h.gates g
    · exact .inr e

/-- A frame that names more says less. -/
theorem framed_mono {s t : State} {ks ks' : List SlotId} {ls ls' : List LoopId} {ns ns' : List NozzleId}
    (h : Framed s t ks ls ns) (hk : ks ⊆ ks') (hl : ls ⊆ ls') (hn : ns ⊆ ns') : Framed s t ks' ls' ns' where
  loops := fun l no => h.loops l fun k => no (hl k)
  hoods := h.hoods
  nozzles := fun n no => h.nozzles n fun k => no (hn k)
  slots := fun i hi no => h.slots i hi fun k => no (hk k)
  starve := fun l no => h.starve l fun k => no (hl k)
  gates := h.gates

/-- What `settle` leaves is a frame, whatever is named. -/
theorem framed_of_settled {s t : State} (h : SettledFrame s t) (ks : List SlotId) (ls : List LoopId)
    (ns : List NozzleId) : Framed s t ks ls ns where
  loops := fun l _ => h.loops l List.not_mem_nil
  hoods := h.hoods
  nozzles := fun n _ => h.nozzles n List.not_mem_nil
  slots := fun k hk _ => h.slots k hk List.not_mem_nil
  starve := fun l _ => by rw [h.starve]
  gates := fun g => by
    rcases h.gates with e | e
    · exact .inl (by rw [e])
    · exact .inr (e g)

/-! ### The frame of settle -/

theorem judgedSlot_of_not_judged {k : SlotId} (h : ¬ Judged k) : judgedSlot k.val = false := by
  unfold Judged at h
  simp [judgedSlot]
  omega

theorem processOnly_of_core {s t : State} (h : t.core = s.core) : ProcessOnly s t where
  lines := core_lines h
  now := core_now h
  tbs := core_tbs h
  lnk := core_lnk h
  mdc := core_mdc h
  phases := core_phases h
  storage := core_storage h
  limits := core_limits h
  block := core_block h
  freeIndex := core_freeIndex h
  pending := core_pending h
  trk := core_trk h
  mge := core_mge h

theorem potKept_of_core {s t : State} (h : t.core = s.core) : PotKept s t where
  state := core_potState h
  readyAt := show t.core.pot.readyAt = s.core.pot.readyAt by rw [h]
  idleFrom := show t.core.pot.idleFrom = s.core.pot.idleFrom by rw [h]
  contact := core_contact h
  level := show t.core.pot.level = s.core.pot.level by rw [h]
  feeder := core_feeder h
  feederEnabled := core_feederEnabled h
  grams := core_grams h
  chip := core_command h .chip
  main := core_command h .main

theorem loopKept_of_core {s t : State} (h : t.core = s.core) (l : LoopId) : LoopKept s t l := by
  have e := core_loop h l
  exact ⟨show (getLoop t l).core.mode = (getLoop s l).core.mode by rw [e],
    show (getLoop t l).core.causes = (getLoop s l).core.causes by rw [e],
    show (getLoop t l).core.pv = (getLoop s l).core.pv by rw [e],
    show (getLoop t l).core.integral = (getLoop s l).core.integral by rw [e],
    show (getLoop t l).core.demand = (getLoop s l).core.demand by rw [e],
    show (getLoop t l).core.window = (getLoop s l).core.window by rw [e]⟩

theorem hoodsKept_of_core {s t : State} (h : t.core = s.core) : HoodsKept s t := by
  refine ⟨core_lockout h, fun i => ?_⟩
  have e := core_hood h i
  exact ⟨show (getHood t i).core.airflow = (getHood s i).core.airflow by rw [e],
    show (getHood t i).core.lockoutFrom = (getHood s i).core.lockoutFrom by rw [e]⟩

/-- What keeps the core, and the gates, keeps the frame of the statements. -/
theorem settledFrame_of_core {s t : State} (h : t.core = s.core) (g : GatesKept s t) : SettledFrame s t where
  process := processOnly_of_core h
  loops := fun l _ => loopKept_of_core h l
  pot := potKept_of_core h
  hoods := hoodsKept_of_core h
  nozzles := fun n _ => core_faulted h n
  slots := fun k hk _ => core_slot h k (judgedSlot_of_not_judged hk)
  starve := core_starve h
  gates := g

theorem roundClosed_gates (s : State) : RoundClosed (GatesKept s) where
  round := fun {u} h => by
    rcases judgeRound_gates u with e | e
    · unfold GatesKept gateStopped; rw [e]; exact h
    · exact .inr e
  speed := fun {u} h => by unfold GatesKept gateStopped; rw [judgeSpeed_fal]; exact h

theorem EndsFrom.gates {s t : State} (h : EndsFrom (GatesKept s) t) : GatesKept s t := by
  obtain ⟨u, hu, rfl⟩ := h
  have round : GatesKept s (judgeRound u) := (roundClosed_gates s).round hu
  unfold GatesKept gateStopped at round ⊢
  rwa [(outputs_beside (judgeRound u)).2.2.1]

theorem gatesKept_refl (s : State) : GatesKept s s := .inl rfl

theorem settle_frame (s : State) : SettledFrame s (settle s) :=
  settledFrame_of_core (settle_core s) (settle_ends (roundClosed_gates s) (gatesKept_refl s)).gates

theorem settleSpeed_frame (s : State) : SettledFrame s (settleSpeed s) :=
  settledFrame_of_core (settleSpeed_core s) (settleSpeed_ends (roundClosed_gates s) (gatesKept_refl s)).gates

/-! ### A slot judged -/

/-- A slot after a judgement of its condition: raised while it holds, else lowered (R151). -/
def slotAfter (c : Bool) (d : Int) (x : AlarmSlot) : AlarmSlot := if c then x.raise d else x.lower

theorem slotAfter_slotAfter (c : Bool) (d : Int) (x : AlarmSlot) :
    slotAfter c d (slotAfter c d x) = slotAfter c d x := by
  cases c
  · rfl
  · unfold slotAfter AlarmSlot.raise; simp only [if_true]; split <;> simp_all

theorem slotAfter_live (c : Bool) (d : Int) (x : AlarmSlot) : (slotAfter c d x).live = c := by
  cases c
  · rfl
  · unfold slotAfter AlarmSlot.raise; simp only [if_true]; split
    · assumption
    · rfl

/-- A raise of a slot that is not live gives its detail. -/
theorem slotAfter_fresh {c : Bool} {d : Int} {x : AlarmSlot} (hx : x.live = false)
    (h : (slotAfter c d x).live = true) : slotAfter c d x = ⟨true, true, d⟩ := by
  rw [slotAfter_live] at h; subst h; simp [slotAfter, AlarmSlot.raise, hx]

theorem slotAfter_of_live {d : Int} {x : AlarmSlot} (hx : x.live = true) : slotAfter true d x = x := by
  simp [slotAfter, AlarmSlot.raise, hx]

theorem judgeSlot_same (s : State) (k : SlotId) (c : Bool) (d : Int) :
    (judgeSlot s k c d).ilu.slots[k.val] = slotAfter c d s.ilu.slots[k.val] := by
  cases c
  · exact updSlot_same s k _
  · exact updSlot_same s k _

theorem judgeSlot_other {s : State} {k j : SlotId} (ne : j ≠ k) (c : Bool) (d : Int) :
    (judgeSlot s k c d).ilu.slots[j.val] = s.ilu.slots[j.val] := by
  cases c
  · exact updSlot_other s k j _ ne
  · exact updSlot_other s k j _ ne

theorem lowerSlot_same (s : State) (k : SlotId) (d : Int) :
    (lowerSlot s k).ilu.slots[k.val] = slotAfter false d s.ilu.slots[k.val] := updSlot_same s k _

theorem lowerSlot_other {s : State} {k j : SlotId} (ne : j ≠ k) :
    (lowerSlot s k).ilu.slots[j.val] = s.ilu.slots[j.val] := updSlot_other s k j _ ne

/-- The words of the statements for a judged slot. -/
theorem slotJudged_of_after {s t : State} {k : SlotId} {holds : Prop} {c : Bool} {d : Int}
    (iff : holds ↔ c = true) (e : t.ilu.slots[k.val] = slotAfter c d s.ilu.slots[k.val]) :
    SlotJudged s t k holds d := by
  unfold SlotJudged
  simp only [Fin.getElem_fin, e, iff]
  cases c
  · simp [slotAfter, AlarmSlot.lower]
  · refine ⟨fun _ h => slotAfter_fresh h (slotAfter_live _ _ _), fun _ h => slotAfter_of_live h, ?_⟩
    intro h; exact absurd rfl h

/-! ### The slots each judgement leaves -/

theorem judgeLoops_slot_other (s : State) {k : SlotId} (hk : ∀ l, k ≠ slotSensorLost l) :
    (judgeLoops s).ilu.slots[k.val] = s.ilu.slots[k.val] := by
  unfold judgeLoops
  refine foldl_keeps (fun u : State => u.ilu.slots[k.val]) _ (fun u l => ?_) _ _
  simp only [judgeSensor]
  rw [judgeSlot_other (hk l)]
  simp

theorem judgePump_slot_other (s : State) (p : Pump) {k : SlotId} (hk : k ≠ slotPumpFault p) :
    (judgePump s p).ilu.slots[k.val] = s.ilu.slots[k.val] := by
  obtain ⟨x, h | h⟩ := judgePump_beside s p <;> rw [h]
  rw [lowerSlot_other hk]

theorem judgePot_slot_other (s : State) {k : SlotId} (hk : ∀ p, k ≠ slotPumpFault p) :
    (judgePot s).ilu.slots[k.val] = s.ilu.slots[k.val] := by
  unfold judgePot
  rw [judgePump_slot_other _ _ (hk _), judgePump_slot_other _ _ (hk _)]
  rfl

theorem judgePressure_slot_other (s : State) {k : SlotId} (hk : k ≠ slotFluxPressure) :
    (judgePressure s).ilu.slots[k.val] = s.ilu.slots[k.val] := by
  unfold judgePressure; split
  · exact judgeSlot_other hk _ _
  · exact lowerSlot_other hk

theorem judgeFlux_slot_other (s : State) {k : SlotId} (hk : k ≠ slotFluxPressure) :
    (judgeFlux s).ilu.slots[k.val] = s.ilu.slots[k.val] := by
  unfold judgeFlux
  rw [judgePressure_slot_other _ hk, (judgeBar_flxOnly s).ilu]

theorem judgeHood_slot_other (s : State) (h : HoodId) {k : SlotId} (hk : k ≠ slotFanStopped h) :
    (judgeHood s h).ilu.slots[k.val] = s.ilu.slots[k.val] := by
  unfold judgeHood judgeFan
  simp only
  rw [(judgeCounting_exuOnly _ _).ilu, judgeSlot_other hk, (judgeAirflow_exuOnly _ _).ilu,
    (setRequirement_exuOnly _ _).ilu]

theorem judgeService_slot_other (s : State) {k : SlotId} (hk : k ≠ slotServiceDue) :
    (judgeService s).ilu.slots[k.val] = s.ilu.slots[k.val] := judgeSlot_other hk _ _

theorem judgeExtraction_slot_other (s : State) {k : SlotId} (hf : ∀ h, k ≠ slotFanStopped h)
    (hk : k ≠ slotServiceDue) : (judgeExtraction s).ilu.slots[k.val] = s.ilu.slots[k.val] := by
  unfold judgeExtraction
  rw [judgeService_slot_other _ hk, judgeHood_slot_other _ _ (hf _), judgeHood_slot_other _ _ (hf _)]

theorem judgeSpeed_slot_other (s : State) {k : SlotId} (hk : k ≠ slotSpeed) :
    (judgeSpeed s).ilu.slots[k.val] = s.ilu.slots[k.val] := by
  unfold judgeSpeed; split
  · exact judgeSlot_other hk _ _
  · exact lowerSlot_other hk

/-- The slots that neither the loops, the pot, the bar's alarm nor the speed judge reach EXU as they were. -/
theorem beforeExtraction_slot (s : State) {k : SlotId} (hl : ∀ l, k ≠ slotSensorLost l)
    (hp : ∀ p, k ≠ slotPumpFault p) (hx : k ≠ slotFluxPressure) :
    (beforeExtraction s).ilu.slots[k.val] = s.ilu.slots[k.val] := by
  unfold beforeExtraction
  rw [judgeFlux_slot_other _ hx, judgePot_slot_other _ hp, judgeLoops_slot_other _ hl, judgePermit_slots,
    passStanding_ilu]

/-- A slot whose condition no judgement changes is, after `settle`, as judged once. -/
theorem settle_slotAfter {s : State} {k : SlotId} {c : Bool} {d : Int} (hk : k ≠ slotSpeed)
    (round : ∀ u : State, u.core = s.core →
      (judgeRound u).ilu.slots[k.val] = slotAfter c d u.ilu.slots[k.val]) :
    (settle s).ilu.slots[k.val] = slotAfter c d s.ilu.slots[k.val] := by
  have after {u : State} (core : u.core = s.core) (h : u.ilu.slots[k.val] = s.ilu.slots[k.val] ∨
      u.ilu.slots[k.val] = slotAfter c d s.ilu.slots[k.val]) :
      (judgeRound u).ilu.slots[k.val] = slotAfter c d s.ilu.slots[k.val] := by
    rw [round u core]
    rcases h with h | h
    · rw [h]
    · rw [h, slotAfter_slotAfter]
  have closed : RoundClosed fun u => u.core = s.core ∧ (u.ilu.slots[k.val] = s.ilu.slots[k.val] ∨
      u.ilu.slots[k.val] = slotAfter c d s.ilu.slots[k.val]) :=
    { round := fun h => ⟨(judgeRound_core _).trans h.1, .inr (after h.1 h.2)⟩
      speed := fun h => ⟨(judgeSpeed_core _).trans h.1, by rw [judgeSpeed_slot_other _ hk]; exact h.2⟩ }
  obtain ⟨u, ⟨core, hu⟩, e⟩ := settle_ends closed ⟨rfl, .inl rfl⟩
  rw [e, (outputs_beside _).2.2.2.1]
  exact after core hu

/-! ### What the conditions read -/

/-- A signal has a value the part acts on: it is VALID or HELD, with the value v. -/
def Reads (s : State) (i : SignalId) (v : Int) : Prop :=
  ((signal s i).state = .valid ∨ (signal s i).state = .held) ∧ (signal s i).value = some v

theorem latest_eq_some {s : State} {i : SignalId} {v : Int} : latest s i = some v ↔ Reads s i v := by
  simp [latest, Signal.readable, Reads]

theorem latest_eq_none {s : State} {i : SignalId} : latest s i = none ↔ ∀ v, ¬ Reads s i v := by
  rw [Option.eq_none_iff_forall_ne_some]
  exact forall_congr' fun v => not_congr latest_eq_some

theorem classOf_eq_lost {s : State} {i : SignalId} : classOf s i = .lost ↔
    (signal s i).state = .lost ∨ ((signal s i).state = .absent ∧ mapped s i = false) := by
  unfold classOf
  cases (signal s i).state <;> simp

theorem classOf_eq_usable {s : State} {i : SignalId} : classOf s i = .usable ↔
    (signal s i).state = .valid ∨ (signal s i).state = .held := by
  unfold classOf
  cases (signal s i).state <;> simp
  cases mapped s i <;> simp

/-- The signal of a zone's loop has the loop's number, and so has TEMP.PA (R71, R79). -/
theorem loopSignalLost_iff {s : State} {l : LoopId} : loopSignalLost s l = true ↔
    (∀ i : SignalId, i.val = l.val → classOf s i = .lost) ∧ (l = loopP → classOf s sigPB = .lost) := by
  have only (j : SignalId) (hj : j.val = l.val) : (∀ i : SignalId, i.val = l.val → classOf s i = .lost) ↔
      classOf s j = .lost :=
    ⟨fun h => h j hj, fun h i hi => by rwa [show i = j from Fin.ext (hi.trans hj.symm)]⟩
  unfold loopSignalLost
  split
  · next hl =>
    rw [only (zoneSignal ⟨l.val, hl⟩) rfl]
    have ne : l ≠ loopP := fun e => by rw [e] at hl; exact absurd hl (by decide)
    simp [ne]
  · next hl =>
    have e : l = loopP := Fin.ext (by have := l.isLt; simp [loopP]; omega)
    rw [only sigPA (by rw [e]; rfl)]
    simp [e]

theorem loopSignalLost_congr {s t : State} (h : t.core = s.core) (l : LoopId) :
    loopSignalLost t l = loopSignalLost s l := by
  unfold loopSignalLost classOf mapped mapOf signal
  rw [core_lnk h, core_tbs h]

theorem pressureLow_congr {s t : State} (h : t.core = s.core) : pressureLow t = pressureLow s := by
  unfold pressureLow minPressure latest signal
  rw [core_lnk h, core_tbs h]

theorem pressureLow_iff {s : State} : pressureLow s = true ↔
    ∃ e, s.tbs.nozzle.active.header = some e ∧ ∀ v, Reads s sigFlux v → v < e.minPress := by
  unfold pressureLow minPressure
  cases s.tbs.nozzle.active.header with
  | none => simp
  | some e =>
    cases hv : latest s sigFlux with
    | none => simpa using fun v hr => absurd hr (latest_eq_none.mp hv v)
    | some v =>
      simp only [Option.map_some, decide_eq_true_eq, Option.some.injEq, exists_eq_left']
      exact ⟨fun h w hw => by
        rw [latest_eq_some.mpr hw] at hv; exact Option.some.inj hv ▸ h, fun h => h v (latest_eq_some.mp hv)⟩

theorem fanState_eq_stopped {s : State} {h : HoodId} : fanState s h = .stopped ↔
    (∃ v, Reads s (sigFan h) v ∧ v < 50) ∨ ((∀ v, ¬ Reads s (sigFan h) v) ∧ mapped s (sigFan h) = true) := by
  unfold fanState
  cases hv : latest s (sigFan h) with
  | none =>
    have none_read := latest_eq_none.mp hv
    cases mapped s (sigFan h) <;> simp [none_read]
  | some v =>
    have read := latest_eq_some.mp hv
    have only (w : Int) (hw : Reads s (sigFan h) w) : w = v := by
      rw [latest_eq_some.mpr hw] at hv; exact Option.some.inj hv
    constructor
    · intro e
      refine .inl ⟨v, read, ?_⟩
      by_contra hn
      simp [hn] at e
    · rintro (⟨w, hw, lt⟩ | ⟨no, -⟩)
      · rw [only w hw] at lt; simp [lt]
      · exact absurd read (no v)

/-! ### SENSOR_LOST (R80) -/

theorem slotSensorLost_injective {l m : LoopId} (h : slotSensorLost l = slotSensorLost m) : l = m := by
  have := congrArg Fin.val h
  simp only [slotSensorLost] at this
  exact Fin.ext (by omega)

/-- SENSOR_LOST's condition: the loop is not OFF and its signal is lost. -/
def sensorLost (s : State) (l : LoopId) : Bool := (getLoop s l).mode ≠ .off && loopSignalLost s l

theorem sensorLost_congr {s t : State} (h : t.core = s.core) (l : LoopId) : sensorLost t l = sensorLost s l := by
  unfold sensorLost
  rw [loopSignalLost_congr h, (loopKept_of_core h l).1]

theorem judgeLoops_sensor (s : State) (l : LoopId) :
    (judgeLoops s).ilu.slots[(slotSensorLost l).val] =
      slotAfter (sensorLost s l) l.val s.ilu.slots[(slotSensorLost l).val] := by
  have step (u : State) (m : LoopId) : (judgeBand (compose u m) m).ilu.slots = u.ilu.slots := by simp
  obtain ⟨u, core, own, e⟩ := foldl_own (fun u : State => u.ilu.slots[(slotSensorLost l).val])
    (fun u => u.core = s.core) (fun s l => judgeSensor (judgeBand (compose s l) l) l) l
    (fun u m hm => by
      simp only [judgeSensor]
      rw [judgeSlot_other fun e => hm (slotSensorLost_injective e).symm, step])
    (fun u m hu => by simpa using hu) nodup_allLoops (mem_allLoops l) (s := s) rfl
  have cond : sensorLost (judgeBand (compose u l) l) l = sensorLost s l := sensorLost_congr (by simpa using core) l
  unfold judgeLoops
  refine e.trans ((judgeSlot_same _ (slotSensorLost l) _ _).trans ?_)
  rw [step, own, ← cond]
  rfl

theorem judgeRound_sensor (s : State) (l : LoopId) :
    (judgeRound s).ilu.slots[(slotSensorLost l).val] =
      slotAfter (sensorLost s l) l.val s.ilu.slots[(slotSensorLost l).val] := by
  have far {k : SlotId} (hk : k.val < 8 ∨ 14 < k.val) : slotSensorLost l ≠ k := by
    intro e
    have := congrArg Fin.val e
    simp only [slotSensorLost] at this
    omega
  have core : (judgePermit (passStanding s)).core = s.core := by simp
  unfold judgeRound
  rw [judgeExtraction_slot_other _ (fun h => far (by right; simp [slotFanStopped]; omega)) (far (by decide)),
    judgeFlux_slot_other _ (far (by decide)),
    judgePot_slot_other _ (fun p => far (by cases p <;> decide)), judgeLoops_sensor, sensorLost_congr core,
    judgePermit_slots, passStanding_ilu]

theorem settle_sensor (s : State) (l : LoopId) : SlotJudged s (settle s) (slotSensorLost l)
    ((getLoop s l).mode ≠ .off ∧ loopSignalLost s l = true) l.val := by
  refine slotJudged_of_after (c := sensorLost s l) (by simp [sensorLost]) (settle_slotAfter ?_ fun u hu => ?_)
  · revert l; decide
  · rw [judgeRound_sensor, sensorLost_congr hu]

/-! ### FLUX_PRESSURE_LOW (R60) -/

theorem isOpen_spray {b : Board} : b.isOpen .spray = true ↔ b.windows.spray = .opened := by
  unfold Board.isOpen Windows.get; exact decide_eq_true_iff

theorem judgeRound_pressure (s : State) : (judgeRound s).ilu.slots[slotFluxPressure.val] =
    (judgePressure (judgeFluxing (expireDwell (markDoubt (reevaluateValves
      (judgePot (judgeLoops (judgePermit (passStanding s))))))))).ilu.slots[slotFluxPressure.val] := by
  unfold judgeRound
  rw [judgeExtraction_slot_other _ (by decide) (by decide), judgeFlux]

/-- The state before the bar's alarm, for slot 43 as the round found it. -/
theorem pressure_before (s : State) : (judgeFluxing (expireDwell (markDoubt (reevaluateValves
    (judgePot (judgeLoops (judgePermit (passStanding s)))))))).ilu.slots[slotFluxPressure.val] =
      s.ilu.slots[slotFluxPressure.val] := by
  rw [(judgeBar_flxOnly _).ilu, judgePot_slot_other _ (fun p => by cases p <;> decide), judgeLoops_slot_other _ (by decide),
    judgePermit_slots, passStanding_ilu]

theorem settle_pressure_noSpray {s : State} (h : ∀ b ∈ s.trk.queue, b.windows.spray ≠ .opened) :
    SlotJudged s (settle s) slotFluxPressure False 0 := by
  have none_open : s.trk.queue.find? (fun b => b.isOpen .spray) = none := by
    exact List.find?_eq_none.mpr fun b hb e => h b hb (isOpen_spray.mp e)
  refine slotJudged_of_after (c := false) (by simp) (settle_slotAfter (by decide) fun u hu => ?_)
  rw [judgeRound_pressure, ← pressure_before u]
  generalize hv : judgeFluxing _ = v
  have core : v.core = s.core := by rw [← hv]; simpa using hu
  unfold judgePressure
  rw [core_trk core, none_open]
  exact lowerSlot_same _ _ 0

theorem settle_pressure_spray {s : State} {older newer : List Board} {b : Board}
    (queue : s.trk.queue = older ++ b :: newer) (before : ∀ x ∈ older, x.windows.spray ≠ .opened)
    (opened : b.windows.spray = .opened) :
    SlotJudged s (settle s) slotFluxPressure (pressureLow s = true) b.data.tag := by
  have oldest : s.trk.queue.find? (fun b => b.isOpen .spray) = some b := by
    rw [queue, List.find?_append, List.find?_eq_none.mpr fun x hx e => before x hx (isOpen_spray.mp e)]
    simp [isOpen_spray.mpr opened]
  refine slotJudged_of_after (c := pressureLow s) Iff.rfl (settle_slotAfter (by decide) fun u hu => ?_)
  rw [judgeRound_pressure, ← pressure_before u]
  generalize hv : judgeFluxing _ = v
  have core : v.core = s.core := by rw [← hv]; simpa using hu
  unfold judgePressure
  rw [core_trk core, oldest, pressureLow_congr core]
  exact judgeSlot_same _ _ _ _

/-! ### FAN_NOT_RUNNING (R143) -/

/-- FAN_NOT_RUNNING's condition, on a hood. -/
def fanStopped (s : State) (h : HoodId) (x : Hood) : Bool :=
  (activeExtraction s h).isSome && decide (0 < x.fan) && fanState s h = .stopped && x.graceFrom.isNone

theorem latest_congr {s t : State} (h : t.core = s.core) (i : SignalId) : latest t i = latest s i := by
  unfold latest signal; rw [core_lnk h]

theorem fanStopped_congr {s t : State} (core : t.core = s.core) (h : HoodId) {x y : Hood}
    (fan : y.fan = x.fan) (grace : y.graceFrom = x.graceFrom) : fanStopped t h y = fanStopped s h x := by
  unfold fanStopped activeExtraction
  rw [core_tbs core, fanState_congr (core_lnk core) (core_tbs core), fan, grace]

theorem judgeHood_fanSlot (s : State) (h : HoodId) :
    (judgeHood s h).ilu.slots[(slotFanStopped h).val] =
      slotAfter (fanStopped s h (getHood (judgeHood s h) h)) ((latest s (sigFan h)).getD 0)
        s.ilu.slots[(slotFanStopped h).val] := by
  have core : (judgeAirflow (setRequirement s h) h).core = s.core := by simp
  have hood (u : State) : getHood (judgeFan u h) h = getHood u h := getHood_of_exu (judgeSlot_exu _ _ _ _) h
  unfold judgeHood
  simp only [getHood_judgeCounting, hood]
  rw [(judgeCounting_exuOnly _ _).ilu]
  refine (judgeSlot_same _ _ _ _).trans ?_
  rw [(judgeAirflow_exuOnly _ _).ilu, (setRequirement_exuOnly _ _).ilu, latest_congr core,
    ← fanStopped_congr core h (counted_fan _ _ _).symm (counted_graceFrom _ _ _).symm]
  rfl

theorem slotFanStopped_injective {h j : HoodId} (e : slotFanStopped h = slotFanStopped j) : h = j := by
  have := congrArg Fin.val e
  simp only [slotFanStopped] at this
  exact Fin.ext (by omega)

theorem judgeExtraction_fanSlot (s : State) (h : HoodId) :
    (judgeExtraction s).ilu.slots[(slotFanStopped h).val] =
      slotAfter (fanStopped s h (getHood (judgeExtraction s) h)) ((latest s (sigFan h)).getD 0)
        s.ilu.slots[(slotFanStopped h).val] := by
  have ne {a b : HoodId} (hab : a ≠ b) : slotFanStopped a ≠ slotFanStopped b :=
    fun e => hab (slotFanStopped_injective e)
  unfold judgeExtraction
  rw [judgeService_slot_other _ (by revert h; decide), getHood_of_exu (judgeService_exu _) h]
  rcases hood_cases h with rfl | rfl
  · rw [judgeHood_slot_other _ hoodP (ne (by decide)),
      getHood_judgeHood_other (show hoodF ≠ hoodP by decide)]
    exact judgeHood_fanSlot s hoodF
  · have core : (judgeHood s hoodF).core = s.core := by simp
    rw [judgeHood_fanSlot, judgeHood_slot_other _ hoodF (ne (by decide)), fanStopped_congr core hoodP rfl rfl,
      latest_congr core]

theorem judgeRound_fanSlot (s : State) (h : HoodId) :
    (judgeRound s).ilu.slots[(slotFanStopped h).val] =
      slotAfter (fanStopped s h (getHood (judgeRound s) h)) ((latest s (sigFan h)).getD 0)
        s.ilu.slots[(slotFanStopped h).val] := by
  have core := beforeExtraction_core s
  rw [judgeRound_eq, judgeExtraction_fanSlot, fanStopped_congr core h rfl rfl, latest_congr core,
    beforeExtraction_slot]
  · revert h; decide
  · intro p; cases p <;> (revert h; decide)
  · revert h; decide

theorem fanSlot_ne_speed (h : HoodId) : slotFanStopped h ≠ slotSpeed := by revert h; decide

theorem settle_fanSlot (s : State) (h : HoodId) :
    ((settle s).ilu.slots[(slotFanStopped h).val].live = true ↔
      fanStopped s h (getHood (settle s) h) = true) ∧
    (s.ilu.slots[(slotFanStopped h).val].live = false →
      (settle s).ilu.slots[(slotFanStopped h).val].live = true →
      (settle s).ilu.slots[(slotFanStopped h).val] = ⟨true, true, (latest s (sigFan h)).getD 0⟩) := by
  let fresh (x : AlarmSlot) : Prop := s.ilu.slots[(slotFanStopped h).val].live = false → x.live = true →
    x = ⟨true, true, (latest s (sigFan h)).getD 0⟩
  have after {u : State} (core : u.core = s.core) (hu : fresh u.ilu.slots[(slotFanStopped h).val]) :
      fresh (judgeRound u).ilu.slots[(slotFanStopped h).val] := by
    intro hs live
    rw [judgeRound_fanSlot, latest_congr core] at live ⊢
    cases hl : u.ilu.slots[(slotFanStopped h).val].live with
    | false => exact slotAfter_fresh hl live
    | true => rw [slotAfter_live] at live; rw [live, slotAfter_of_live hl]; exact hu hs hl
  have closed : RoundClosed fun u => u.core = s.core ∧ fresh u.ilu.slots[(slotFanStopped h).val] :=
    { round := fun hu => ⟨(judgeRound_core _).trans hu.1, after hu.1 hu.2⟩
      speed := fun hu => ⟨(judgeSpeed_core _).trans hu.1, by
        rw [judgeSpeed_slot_other _ (fanSlot_ne_speed h)]; exact hu.2⟩ }
  obtain ⟨u, ⟨core, hu⟩, e⟩ := settle_ends closed ⟨rfl, fun a b => by rw [a] at b; cases b⟩
  obtain ⟨-, exu, -, slots, -⟩ := outputs_beside (judgeRound u)
  rw [e, slots, getHood_of_exu exu h]
  refine ⟨?_, after core hu⟩
  rw [judgeRound_fanSlot, slotAfter_live, fanStopped_congr core h rfl rfl]

/-! ### FILTER_SERVICE_DUE (R146) -/

theorem serviceDue_iff {s : State} {h : HoodId} : serviceDue s h = true ↔ ∃ x v, s.lst.limits = some x ∧
    x.service = some v ∧ 10 * v[h] ≤ (getHood s h).hours := by
  unfold serviceDue
  cases s.lst.limits with
  | none => simp
  | some x => cases hv : x.service <;> simp [hv]

/-- A hood due at both ends of a growth of its hours is due in between, and one due at neither is not. -/
theorem serviceDue_between {s t u : State} {h : HoodId} (ct : t.core = s.core) (cu : u.core = s.core)
    (st : HoursGrow (getHood s h).hours (getHood t h).hours)
    (tu : HoursGrow (getHood t h).hours (getHood u h).hours) (e : serviceDue s h = serviceDue u h) :
    serviceDue t h = serviceDue s h := by
  revert e
  unfold serviceDue
  rw [core_limits ct, core_limits cu]
  cases s.lst.limits with
  | none => simp
  | some x =>
    cases hv : x.service with
    | none => simp [hv]
    | some v =>
      simp only [hv, decide_eq_decide]
      intro e
      by_cases le : 10 * v[h] ≤ (getHood s h).hours
      · simp only [le, iff_true]; exact st.above tu le (e.mp le)
      · simp only [le, iff_false, not_le]
        exact st.below tu (not_le.mp le) (not_le.mp fun k => le (e.mpr k))

theorem judged_hours (s : State) (h : HoodId) : HoursGrow (getHood s h).hours (judged s h).hours := by
  have k := counted_hours s.now (decide (0 < (aired s.now (isLive s (slotExtractLow h))
    (required s.now (levelOf s h) (activeExtraction s h) (getHood s h))).fan) && fanState s h ≠ .stopped)
    (aired s.now (isLive s (slotExtractLow h))
      (required s.now (levelOf s h) (activeExtraction s h) (getHood s h)))
  rw [aired_hours, required_hours] at k
  exact k

theorem judgeRound_hours (s : State) (h : HoodId) :
    HoursGrow (getHood s h).hours (getHood (judgeRound s) h).hours := by
  rw [getHood_judgeRound, ← getHood_beforeExtraction s h]
  exact judged_hours _ h

theorem serviceDue_congr {s t : State} {h : HoodId} (limits : t.lst.limits = s.lst.limits)
    (hood : getHood t h = getHood s h) : serviceDue t h = serviceDue s h := by
  unfold serviceDue; rw [limits, hood]

theorem judgeRound_service (s : State) : (judgeRound s).ilu.slots[slotServiceDue.val] =
    slotAfter (serviceDue (judgeRound s) hoodF || serviceDue (judgeRound s) hoodP)
      (if serviceDue (judgeRound s) hoodF then 0 else 1) s.ilu.slots[slotServiceDue.val] := by
  have due (u : State) (h : HoodId) : serviceDue (judgeService u) h = serviceDue u h :=
    serviceDue_congr (core_limits (judgeService_core u)) (getHood_of_exu (judgeService_exu u) h)
  rw [judgeRound_eq, judgeExtraction, due, due, judgeService, judgeSlot_same,
    judgeHood_slot_other _ _ (by decide), judgeHood_slot_other _ _ (by decide),
    beforeExtraction_slot _ (by decide) (fun p => by cases p <;> decide) (by decide)]

/-- What FILTER_SERVICE_DUE shows after `settle`: its condition then; the detail of the hood that is due at
both ends, or P where F is due at neither; and a slot that was live with a hood due at both ends stays. -/
theorem settle_service (s : State) :
    ((settle s).ilu.slots[slotServiceDue.val].live = true ↔
      serviceDue (settle s) hoodF = true ∨ serviceDue (settle s) hoodP = true) ∧
    (serviceDue (settle s) hoodF = serviceDue s hoodF → s.ilu.slots[slotServiceDue.val].live = false →
      (settle s).ilu.slots[slotServiceDue.val].live = true →
      (settle s).ilu.slots[slotServiceDue.val] = ⟨true, true, if serviceDue s hoodF then 0 else 1⟩) ∧
    (∀ h : HoodId, serviceDue s h = true → serviceDue (settle s) h = true →
      s.ilu.slots[slotServiceDue.val].live = true →
      (settle s).ilu.slots[slotServiceDue.val] = s.ilu.slots[slotServiceDue.val]) := by
  let fresh (u : State) : Prop := serviceDue u hoodF = serviceDue s hoodF →
    s.ilu.slots[slotServiceDue.val].live = false → u.ilu.slots[slotServiceDue.val].live = true →
    u.ilu.slots[slotServiceDue.val] = ⟨true, true, if serviceDue s hoodF then 0 else 1⟩
  let stays (u : State) : Prop := ∀ h : HoodId, serviceDue s h = true → serviceDue u h = true →
    s.ilu.slots[slotServiceDue.val].live = true →
    u.ilu.slots[slotServiceDue.val] = s.ilu.slots[slotServiceDue.val]
  let grown (u : State) : Prop := u.core = s.core ∧ ∀ h, HoursGrow (getHood s h).hours (getHood u h).hours
  have round {u : State} (g : grown u) (hf : fresh u) (hs : stays u) :
      grown (judgeRound u) ∧ fresh (judgeRound u) ∧ stays (judgeRound u) := by
    have core : (judgeRound u).core = s.core := (judgeRound_core u).trans g.1
    have before (h : HoodId) (e : serviceDue (judgeRound u) h = serviceDue s h) :
        serviceDue u h = serviceDue s h :=
      serviceDue_between g.1 core (g.2 h) (judgeRound_hours u h) e.symm
    refine ⟨⟨core, fun h => (g.2 h).trans (judgeRound_hours u h)⟩, fun e dead live => ?_,
      fun h due due' live => ?_⟩
    · have hu := hf (before hoodF e) dead
      rw [judgeRound_service] at live ⊢
      cases hl : u.ilu.slots[slotServiceDue.val].live with
      | false => rw [slotAfter_fresh hl live, e]
      | true => rw [slotAfter_live] at live; rw [live, slotAfter_of_live hl]; exact hu hl
    · have hu := hs h due ((before h (due'.trans due.symm)).trans due) live
      have some_due : (serviceDue (judgeRound u) hoodF || serviceDue (judgeRound u) hoodP) = true := by
        rcases hood_cases h with rfl | rfl
        · rw [due', Bool.true_or]
        · rw [due', Bool.or_true]
      rw [judgeRound_service, some_due, hu, slotAfter_of_live live]
  have speed {u : State} (g : grown u) (hf : fresh u) (hs : stays u) :
      grown (judgeSpeed u) ∧ fresh (judgeSpeed u) ∧ stays (judgeSpeed u) := by
    have hood (h : HoodId) : getHood (judgeSpeed u) h = getHood u h := getHood_of_exu (judgeSpeed_exu u) h
    have due (h : HoodId) : serviceDue (judgeSpeed u) h = serviceDue u h :=
      serviceDue_congr (core_limits (judgeSpeed_core u)) (hood h)
    have slot : (judgeSpeed u).ilu.slots[slotServiceDue.val] = u.ilu.slots[slotServiceDue.val] :=
      judgeSpeed_slot_other u (by decide)
    refine ⟨⟨(judgeSpeed_core u).trans g.1, fun h => by rw [hood]; exact g.2 h⟩, ?_, ?_⟩
    · show serviceDue (judgeSpeed u) hoodF = _ → _
      rw [due, slot]; exact hf
    · intro h; rw [due, slot]; exact hs h
  have closed : RoundClosed fun u => grown u ∧ fresh u ∧ stays u :=
    { round := fun ⟨g, hf, hs⟩ => round g hf hs
      speed := fun ⟨g, hf, hs⟩ => speed g hf hs }
  have start : fresh s := fun _ dead live => by rw [dead] at live; cases live
  obtain ⟨u, ⟨g, hf, hs⟩, e⟩ := settle_ends closed
    ⟨⟨rfl, fun h => HoursGrow.refl _⟩, start, fun _ _ _ _ => rfl⟩
  obtain ⟨-, exu, -, slots, -⟩ := outputs_beside (judgeRound u)
  have due (h : HoodId) : serviceDue (settle s) h = serviceDue (judgeRound u) h :=
    serviceDue_congr ((settle_limits s).trans (core_limits ((judgeRound_core u).trans g.1)).symm) (by rw [e]; exact getHood_of_exu exu h)
  obtain ⟨-, fresh', stays'⟩ := round g hf hs
  refine ⟨?_, ?_, fun h => ?_⟩
  · rw [due, due, e, slots, judgeRound_service, slotAfter_live, Bool.or_eq_true]
  · rw [due, e, slots]; exact fresh'
  · rw [due, e, slots]; exact stays' h

/-! ### The statement -/

/-- Settles O60: the frame of `settle` from its core and the gates; each alarm from its judgement in a round,
kept through the rounds. -/
theorem judgementsKeepTheRest : Obligations.JudgementsKeepTheRest := by
  unfold Obligations.JudgementsKeepTheRest
  intro s
  refine ⟨settle_frame s, fun l => ?_, settle_pressure_noSpray, fun older b newer queue before opened => ?_,
    fun h => ?_, ?_⟩
  · have k := settle_sensor s l
    simp only [loopSignalLost_iff, classOf_eq_lost] at k
    exact k
  · have k := settle_pressure_spray queue before opened
    rw [pressureLow_iff] at k
    exact k
  · obtain ⟨iff, fresh⟩ := settle_fanSlot s h
    refine ⟨iff.trans ?_, fun v hv live dead => ?_, fun none_read live dead => ?_⟩
    · simp only [fanStopped, Bool.and_eq_true, decide_eq_true_eq, fanState_eq_stopped, Option.isNone_iff_eq_none,
        ← Option.isSome_iff_ne_none, and_assoc, Reads]
    · have k := fresh dead live
      rwa [latest_eq_some.mpr hv] at k
    · have k := fresh dead live
      rwa [latest_eq_none.mpr none_read] at k
  · obtain ⟨iff, fresh, stays⟩ := settle_service s
    have limits : (settle s).lst.limits = s.lst.limits := settle_limits s
    have due (h : HoodId) := serviceDue_iff (s := settle s) (h := h)
    simp only [limits] at due
    refine ⟨iff.trans (or_congr (due hoodF) (due hoodP)), fun before after live dead => ?_,
      fun before after live dead => ?_, fun h before after => stays h (serviceDue_iff.mpr before)
        ((due h).mpr after)⟩
    · have b : serviceDue s hoodF = true := serviceDue_iff.mpr before
      have k := fresh (((due hoodF).mpr after).trans b.symm) dead live
      rwa [b] at k
    · have b : serviceDue s hoodF = false := Bool.eq_false_iff.mpr fun e => before (serviceDue_iff.mp e)
      have a : serviceDue (settle s) hoodF = false :=
        Bool.eq_false_iff.mpr fun e => after ((due hoodF).mp e)
      have k := fresh (a.trans b.symm) dead live
      rwa [b] at k

end Sys2Proof.SelectiveFluxing
end

section
/-! SUPPORT. The rules of FLX's operations, and the laws of FLX that `settle` keeps: a law is checked against
the elementary changes that the judgements make (a valve closes or opens, a test ends, accounts are cut, marks
are set), and holds after `settle` then. -/

namespace Sys2Proof.SelectiveFluxing

open Sys2Proof.Machine Sys2Proof.Safety

/-! ### Closing and opening a valve (R43, R53) -/

@[simp] theorem closeValve_lastTest (s : State) (n : NozzleId) :
    (closeValve s n).flx.lastTest = s.flx.lastTest := by
  unfold closeValve; split <;> rfl

theorem closeValve_of_closed {s : State} {n : NozzleId} (h : (getNozzle s n).valve = none) :
    closeValve s n = s := by
  unfold closeValve; rw [h]

/-- A nozzle whose valve has closed: a waiting entry has come into force (R43). -/
def closedNozzle (x : Nozzle) : Nozzle :=
  { x with valve := none, inForce := x.waiting.or x.inForce, waiting := none }

theorem getNozzle_closeValve_same {s : State} {n : NozzleId} {iv : Interval}
    (h : (getNozzle s n).valve = some iv) : getNozzle (closeValve s n) n = closedNozzle (getNozzle s n) := by
  have own (f : Nozzle → Nozzle) (x : Flx) (hx : x.nozzles = (updNozzle s n f).flx.nozzles) :
      getNozzle { s with flx := x } n = f (getNozzle s n) := by
    rw [← getNozzle_updNozzle s n f]; unfold getNozzle; rw [hx]
  unfold closeValve; rw [h]
  refine (own _ _ rfl).trans ?_
  unfold closedNozzle
  cases (getNozzle s n).waiting <;> rfl

theorem closeValve_valve (s : State) (n : NozzleId) : (getNozzle (closeValve s n) n).valve = none := by
  cases h : (getNozzle s n).valve with
  | none => rw [closeValve_of_closed h, h]
  | some iv => rw [getNozzle_closeValve_same h]; rfl

theorem closeValve_accounts {s : State} {n : NozzleId} {iv : Interval} (h : (getNozzle s n).valve = some iv) :
    (closeValve s n).flx.accounts = s.flx.accounts.map (Account.credit s.now iv) := by
  unfold closeValve; rw [h]; rfl

theorem closeValve_dwellFrom {s : State} {n : NozzleId} {iv : Interval} (h : (getNozzle s n).valve = some iv) :
    (closeValve s n).flx.dwellFrom = some s.now := by
  unfold closeValve; rw [h]; rfl

/-- The interval that starts when a valve opens (R53, R54). -/
def openedInterval (s : State) (n : NozzleId) (o : ValveOwner) : Interval where
  owner := o
  openedAt := s.now
  rate := match (getNozzle s n).inForce with
    | some e => e.flow
    | none => 0
  maxOpen := match s.tbs.nozzle.active.header with
    | some h => h.maxOpen
    | none => 0
  doubt := pressureDoubtful s

theorem getNozzle_openValve_same (s : State) (n : NozzleId) (o : ValveOwner) :
    getNozzle (openValve s n o) n = { getNozzle s n with valve := some (openedInterval s n o) } :=
  getNozzle_updNozzle s n _

/-! ### Ending a test (R63) -/

theorem endTest_of_idle {s : State} (h : s.flx.test = none) (c : TestEnd) : endTest s c = s := by
  unfold endTest; rw [h]

theorem endTest_of_closed {s : State} {t : NozzleTest} (ht : s.flx.test = some t)
    (hv : (getNozzle s t.nozzle).valve = none) (c : TestEnd) :
    endTest s c = { s with flx := { s.flx with test := none } } := by
  unfold endTest; rw [ht]; simp only [hv]

/-- The record of a test that ends now (R63). -/
def testRecord (now : Time) (t : NozzleTest) (iv : Interval) (c : TestEnd) : TestRecord :=
  ⟨t.nozzle, t.duration, elapsed now iv.openedAt, min Config.max32 (intervalVolume now iv), iv.doubt, c⟩

theorem endTest_of_open {s : State} {t : NozzleTest} {iv : Interval} (ht : s.flx.test = some t)
    (hv : (getNozzle s t.nozzle).valve = some iv) (c : TestEnd) :
    endTest s c = { closeValve s t.nozzle with flx := { (closeValve s t.nozzle).flx with
      test := none, lastTest := some (testRecord s.now t iv c) } } := by
  unfold endTest; rw [ht]; simp only [hv]; rfl

/-- An ended test leaves the bar as its closed valve does: nothing, or the closing of that valve. -/
theorem endTest_bar (s : State) (c : TestEnd) :
    ((endTest s c).flx.nozzles = s.flx.nozzles ∧ (endTest s c).flx.accounts = s.flx.accounts ∧
      (endTest s c).flx.dwellFrom = s.flx.dwellFrom) ∨
    ∃ n, (endTest s c).flx.nozzles = (closeValve s n).flx.nozzles ∧
      (endTest s c).flx.accounts = (closeValve s n).flx.accounts ∧
      (endTest s c).flx.dwellFrom = (closeValve s n).flx.dwellFrom := by
  cases ht : s.flx.test with
  | none => rw [endTest_of_idle ht]; exact .inl ⟨rfl, rfl, rfl⟩
  | some t =>
    cases hv : (getNozzle s t.nozzle).valve with
    | none => rw [endTest_of_closed ht hv]; exact .inl ⟨rfl, rfl, rfl⟩
    | some iv => rw [endTest_of_open ht hv]; exact .inr ⟨t.nozzle, rfl, rfl, rfl⟩

theorem getNozzle_of_nozzles {s t : State} (h : t.flx.nozzles = s.flx.nozzles) (n : NozzleId) :
    getNozzle t n = getNozzle s n := by
  unfold getNozzle; rw [h]

theorem getNozzle_of_flx {s t : State} (h : t.flx = s.flx) (n : NozzleId) : getNozzle t n = getNozzle s n :=
  getNozzle_of_nozzles (by rw [h]) n

theorem getNozzle_markDoubt (s : State) (n : NozzleId) : getNozzle (markDoubt s) n =
    if pressureDoubtful s then
      { getNozzle s n with valve := (getNozzle s n).valve.map fun iv => { iv with doubt := true } }
    else getNozzle s n := by
  unfold markDoubt; split
  · simp [getNozzle]
  · rfl

theorem markDoubt_owner (s : State) (n : NozzleId) : (getNozzle (markDoubt s) n).valve.map Interval.owner =
    (getNozzle s n).valve.map Interval.owner := by
  rw [getNozzle_markDoubt]; split
  · simp [Function.comp_def]
  · rfl

theorem markDoubt_beside (s : State) : (markDoubt s).flx.accounts = s.flx.accounts ∧
    (markDoubt s).flx.test = s.flx.test ∧ (markDoubt s).flx.lastTest = s.flx.lastTest ∧
    (markDoubt s).flx.dwellFrom = s.flx.dwellFrom := by
  unfold markDoubt; split <;> exact ⟨rfl, rfl, rfl, rfl⟩

/-- A nozzle that is wanted is wanted for a board whose spray window is open, and is not faulted. -/
theorem wanted_covered {s : State} {n : NozzleId} (h : wanted s n = true) :
    (∃ b, coveringBoard s = some b) ∧ (getNozzle s n).faulted = false := by
  unfold wanted at h
  rw [Bool.and_eq_true, Bool.and_eq_true, Bool.not_eq_true'] at h
  obtain ⟨⟨mask, faulted⟩, -⟩ := h
  refine ⟨?_, faulted⟩
  cases hb : coveringBoard s with
  | some b => exact ⟨b, rfl⟩
  | none =>
    have zero : currentMask s = 0 := by unfold currentMask; rw [hb]; split <;> simp_all
    rw [zero] at mask
    simp at mask

theorem coveringBoard_open {s : State} {b : Board} (h : coveringBoard s = some b) :
    b ∈ s.trk.queue ∧ b.windows.spray = .opened := by
  unfold coveringBoard at h
  split at h
  · cases h
  · refine ⟨List.mem_of_find?_eq_some h, ?_⟩
    have c := List.find?_some h
    unfold covers at c
    rw [Bool.and_eq_true, Bool.and_eq_true] at c
    exact isOpen_spray.mp c.1.1

/-! ### Laws of FLX -/

/-- A law of FLX: kept by what changes nothing of FLX or the core, and by each change the judgements make. A
valve of a running test is closed by the end of the test alone. -/
structure FluxLaw (P : State → Prop) : Prop where
  beside : ∀ {u v : State}, v.core = u.core → v.flx = u.flx → SlotsGrow u v → P u → P v
  close : ∀ {u : State} {n : NozzleId} {iv : Interval}, (getNozzle u n).valve = some iv →
    (iv.owner ≠ .test ∨ u.flx.test = none) → P u → P (closeValve u n)
  opens : ∀ {u : State} {n : NozzleId} {p : Pos}, (getNozzle u n).valve = none → wanted u n = true → P u →
    P (openValve u n (.board p))
  ends : ∀ {u : State}, 3 ≤ standingOf u → P u → P (endTest u .inhibit)
  cut : ∀ {u : State}, P u → P (cutAccounts u fun _ => true)
  doubt : ∀ {u : State}, P u → P (markDoubt u)
  dwell : ∀ {u : State}, P u → P { u with flx := { u.flx with dwellFrom := none } }
  fluxing : ∀ {u : State}, P u → P (judgeFluxing u)

theorem FluxLaw.closeAll {P : State → Prop} (hP : FluxLaw P) {s : State} (idle : s.flx.test = none)
    (hs : P s) : P (closeValves s fun _ => true) := by
  refine (foldl_preserves (fun u => u.flx.test = none ∧ P u) _ (fun u n h => ?_) allNozzles s ⟨idle, hs⟩).2
  split
  · next iv hv => rw [if_pos rfl]; exact ⟨(closeValve_test u n).trans h.1, hP.close hv (.inr h.1) h.2⟩
  · exact h

theorem FluxLaw.inhibit {P : State → Prop} (hP : FluxLaw P) {s : State} (high : 3 ≤ standingOf s) (hs : P s) :
    P (inhibitNow s) :=
  hP.cut (hP.closeAll (endTest_test s _) (hP.ends high hs))

theorem FluxLaw.pass {P : State → Prop} (hP : FluxLaw P) {s : State} (hs : P s) : P (passStanding s) := by
  have risen : P { s with ilu := { s.ilu with standing := standingOf s } } :=
    hP.beside (ilu_core _ _ rfl) rfl (.of_eq rfl) hs
  unfold passStanding; simp only; split
  · next high => exact hP.inhibit high.2 risen
  · exact risen

theorem FluxLaw.reevaluate {P : State → Prop} (hP : FluxLaw P) {s : State} (n : NozzleId) (hs : P s) :
    P (reevaluateNozzle s n) := by
  have shut : P (shutUnwanted s n) := by
    unfold shutUnwanted; split
    · next iv hv =>
      split
      · exact hs
      · next keep => exact hP.close hv (.inl fun e => keep (by unfold keepsOpen; rw [e])) hs
    · exact hs
  unfold reevaluateNozzle openWanted; split
  · next b closed covering =>
    split
    · next want => exact hP.opens closed want shut
    · exact shut
  · exact shut

theorem FluxLaw.judgeFlux {P : State → Prop} (hP : FluxLaw P) {s : State} (hs : P s) : P (judgeFlux s) := by
  have valves : P (reevaluateValves s) := foldl_preserves P _ (fun u n h => hP.reevaluate n h) _ _ hs
  have dwell {u : State} (hu : P u) : P (expireDwell u) := by
    unfold expireDwell; split
    · exact hP.dwell hu
    · exact hu
  exact hP.beside (judgePressure_core _) (judgePressure_flx _) (judgePressure_grows _)
    (hP.fluxing (dwell (hP.doubt valves)))

theorem FluxLaw.roundClosed {P : State → Prop} (hP : FluxLaw P) : RoundClosed P where
  round := fun {u} hu => by
    have permit := hP.beside (judgePermit_core _) (judgePermit_flx _) (.of_eq (judgePermit_slots _))
      (hP.pass hu)
    have loops := hP.beside (judgeLoops_core _) (judgeLoops_flx _) (judgeLoops_grows _) permit
    have pot := hP.beside (judgePot_core _) (judgePot_flx _) (judgePot_grows _) loops
    exact hP.beside (judgeExtraction_core _) (judgeExtraction_flx _) (judgeExtraction_grows _)
      (hP.judgeFlux pot)
  speed := fun hu => hP.beside (judgeSpeed_core _) (judgeSpeed_flx _) (judgeSpeed_grows _) hu

theorem FluxLaw.ends_of {P : State → Prop} (hP : FluxLaw P) {t : State} (h : EndsFrom P t) : P t := by
  obtain ⟨u, hu, rfl⟩ := h
  exact hP.beside (by simp) (outputs_beside _).1 (.of_eq (outputs_beside _).2.2.2.1)
    (hP.roundClosed.round hu)

/-- `settle` keeps a law of FLX. -/
theorem FluxLaw.settle {P : State → Prop} (hP : FluxLaw P) {s : State} (hs : P s) : P (settle s) :=
  hP.ends_of (settle_ends hP.roundClosed hs)

theorem FluxLaw.settleSpeed {P : State → Prop} (hP : FluxLaw P) {s : State} (hs : P s) : P (settleSpeed s) :=
  hP.ends_of (settleSpeed_ends hP.roundClosed hs)

/-! ### The laws -/

/-- No test runs, the last-test record is r, and nozzle n's valve is not open for a test. -/
def TestOver (r : Option TestRecord) (n : NozzleId) (u : State) : Prop :=
  u.flx.test = none ∧ u.flx.lastTest = r ∧ ∀ x, (getNozzle u n).valve = some x → x.owner ≠ .test

theorem testOver_fluxLaw (r : Option TestRecord) (n : NozzleId) : FluxLaw (TestOver r n) where
  beside := fun _ flx _ h => by
    unfold TestOver at *
    rwa [flx, getNozzle_of_flx flx]
  close := fun {u m iv} hv _ ⟨idle, last, own⟩ => by
    refine ⟨(closeValve_test u m).trans idle, (closeValve_lastTest u m).trans last, fun x hx => ?_⟩
    by_cases e : m = n
    · rw [e, closeValve_valve] at hx; cases hx
    · rw [getNozzle_closeValve e] at hx; exact own x hx
  opens := fun {u m p} _ _ ⟨idle, last, own⟩ => by
    refine ⟨idle, last, fun x hx => ?_⟩
    by_cases e : m = n
    · rw [e, getNozzle_openValve_same] at hx
      cases hx
      exact ValveOwner.noConfusion
    · rw [getNozzle_openValve _ e] at hx; exact own x hx
  ends := fun {u} _ h => by rwa [endTest_of_idle h.1]
  cut := fun h => h
  doubt := fun {u} ⟨idle, last, own⟩ => by
    obtain ⟨-, test, record, -⟩ := markDoubt_beside u
    refine ⟨test.trans idle, record.trans last, fun x hx => ?_⟩
    have k := markDoubt_owner u n
    rw [hx, Option.map_some] at k
    obtain ⟨y, hy, e⟩ := Option.map_eq_some_iff.mp k.symm
    rw [← e]; exact own y hy
  dwell := fun h => h
  fluxing := fun h => h

/-- Nozzle n is faulted and its valve closed. -/
def Stuck (n : NozzleId) (u : State) : Prop :=
  (getNozzle u n).faulted = true ∧ (getNozzle u n).valve = none

theorem stuck_of_bar {s t : State} {n : NozzleId} (core : t.core = s.core)
    (valve : (getNozzle t n).valve = (getNozzle s n).valve) (h : Stuck n s) : Stuck n t :=
  ⟨(core_faulted core n).trans h.1, valve.trans h.2⟩

theorem stuck_close {u : State} {n : NozzleId} (m : NozzleId) (h : Stuck n u) : Stuck n (closeValve u m) := by
  refine ⟨(core_faulted (closeValve_core u m) n).trans h.1, ?_⟩
  by_cases e : m = n
  · rw [e]; exact closeValve_valve u n
  · rw [getNozzle_closeValve e]; exact h.2

theorem stuck_fluxLaw (n : NozzleId) : FluxLaw (Stuck n) where
  beside := fun core flx _ h => stuck_of_bar core (by rw [getNozzle_of_flx flx]) h
  close := fun {u m iv} _ _ h => stuck_close m h
  opens := fun {u m p} _ want h => by
    have ne : m ≠ n := fun e => by
      have := (wanted_covered want).2
      rw [e, h.1] at this; cases this
    exact stuck_of_bar (openValve_core u m _) (by rw [getNozzle_openValve _ ne]) h
  ends := fun {u} _ h => by
    rcases endTest_bar u .inhibit with ⟨same, -⟩ | ⟨m, same, -⟩
    · exact stuck_of_bar (endTest_core u _) (by rw [getNozzle_of_nozzles same]) h
    · exact stuck_of_bar ((endTest_core u _).trans (closeValve_core u m).symm)
        (by rw [getNozzle_of_nozzles same]) (stuck_close m h)
  cut := fun h => h
  doubt := fun {u} h => stuck_of_bar (markDoubt_core u) (by
    rw [getNozzle_markDoubt]; split
    · simp [h.2]
    · rfl) h
  dwell := fun h => h
  fluxing := fun h => h

/-- No spray window and no valve is open, and no vapour dwell runs. -/
def Idle (u : State) : Prop := BarIdle u ∧ u.flx.dwellFrom = none

theorem idle_of_bar {s t : State} (trk : t.trk = s.trk) (nozzles : t.flx.nozzles = s.flx.nozzles)
    (dwell : t.flx.dwellFrom = s.flx.dwellFrom) (h : Idle s) : Idle t := by
  refine ⟨⟨?_, fun n => ?_⟩, dwell.trans h.2⟩
  · rw [trk]; exact h.1.1
  · rw [getNozzle_of_nozzles nozzles]; exact h.1.2 n

theorem idle_fluxLaw : FluxLaw Idle where
  beside := fun core flx _ h => idle_of_bar (core_trk core) (by rw [flx]) (by rw [flx]) h
  close := fun {u n iv} hv _ h => by rw [h.1.2 n] at hv; cases hv
  opens := fun {u n p} _ want h => by
    obtain ⟨⟨b, hb⟩, -⟩ := wanted_covered want
    obtain ⟨mem, opened⟩ := coveringBoard_open hb
    exact absurd opened (h.1.1 b mem)
  ends := fun {u} _ h => by
    have trk := (endTest_flxOnly u .inhibit).trk
    rcases endTest_bar u .inhibit with ⟨nozzles, -, dwell⟩ | ⟨n, nozzles, -, dwell⟩
    · exact idle_of_bar trk nozzles dwell h
    · rw [closeValve_of_closed (h.1.2 n)] at nozzles dwell
      exact idle_of_bar trk nozzles dwell h
  cut := fun h => h
  doubt := fun {u} h => by
    refine ⟨⟨?_, fun n => ?_⟩, (markDoubt_beside u).2.2.2.trans h.2⟩
    · rw [(markDoubt_flxOnly u).trk]; exact h.1.1
    · rw [getNozzle_markDoubt, h.1.2 n]; split
      · rfl
      · exact h.1.2 n
  dwell := fun h => ⟨h.1, rfl⟩
  fluxing := fun h => h

/-! ### Fluxing active (R61) -/

/-- After `settle` fluxing active is what its condition says of the bar then. -/
theorem settle_fluxing (s : State) : (settle s).flx.fluxing = (s.trk.queue.any (fun b => b.isOpen .spray) ||
    (settle s).flx.nozzles.toList.any (fun x => x.valve.isSome) || (settle s).flx.dwellFrom.isSome) := by
  obtain ⟨u, core, e⟩ := settle_ends (roundClosed_core s) rfl
  rw [e, (outputs_beside _).1, judgeRound_flx]
  unfold beforeExtraction judgeFlux
  rw [judgePressure_flx]
  generalize hv : expireDwell _ = v
  have trk : v.trk = s.trk := core_trk (by rw [← hv]; simpa using core)
  rw [← trk]
  rfl

theorem any_valve {u : State} : (u.flx.nozzles.toList.any fun x => x.valve.isSome) = true ↔
    ∃ n : NozzleId, (getNozzle u n).valve ≠ none := by
  simp only [List.any_eq_true, Option.isSome_iff_ne_none, getNozzle]
  constructor
  · rintro ⟨x, hx, hv⟩
    obtain ⟨i, hi, rfl⟩ := Vector.getElem_of_mem (Vector.mem_toList_iff.mp hx)
    exact ⟨⟨i, hi⟩, hv⟩
  · rintro ⟨n, hv⟩
    exact ⟨_, Vector.mem_toList_iff.mpr (Vector.getElem_mem n.isLt), hv⟩

theorem settle_fluxing_iff (s : State) : (settle s).flx.fluxing = true ↔
    (∃ b ∈ s.trk.queue, b.windows.spray = .opened) ∨ (∃ n : NozzleId, (getNozzle (settle s) n).valve ≠ none) ∨
      (settle s).flx.dwellFrom ≠ none := by
  rw [settle_fluxing, Bool.or_eq_true, Bool.or_eq_true, any_valve, List.any_eq_true, or_assoc,
    Option.isSome_iff_ne_none]
  simp only [isOpen_spray]

end Sys2Proof.SelectiveFluxing
end

section
/-! SUPPORT. The ends of FLX's timers: the stuck valve, the vapour dwell, the nozzle test (R58, R61, R63). -/

namespace Sys2Proof.SelectiveFluxing

open Sys2Proof.Machine Sys2Proof.Safety

/-! ### Commands of a part that runs -/

/-- A command's effect is carried out while the part is not held in reset. -/
theorem unlessHeld_running {s : State} (h : Running s) (f : State → State) : unlessHeld s f = .next (f s) := by
  unfold unlessHeld; rw [if_neg (by simp [h])]

theorem ifDue_true {c : Bool} (h : c = true) (s t : State) : ifDue c s t = t := by rw [ifDue, if_pos h]

theorem ifDue_false {c : Bool} (h : c = false) (s t : State) : ifDue c s t = s := by
  rw [ifDue, if_neg (by simp [h])]

/-! ### Frames of the elementary changes -/

theorem FlxOnly.processOnly {s t : State} (h : FlxOnly s t) : ProcessOnly s t := by
  rw [h]; exact ⟨⟨rfl, rfl, rfl, rfl, rfl, rfl, rfl, rfl, rfl, rfl, rfl⟩, rfl, rfl⟩

theorem FlxOnly.potKept {s t : State} (h : FlxOnly s t) : PotKept s t := potKept_of_eq (by rw [h])

theorem FlxOnly.framed {s t : State} {ns : List NozzleId} (h : FlxOnly s t) (faults : FaultsKept s t ns) :
    Framed s t [] [] ns where
  loops := loopsKept_of_eq (by rw [h]) []
  hoods := by unfold HoodsKept getHood; rw [h.exu]; exact ⟨rfl, fun _ => ⟨rfl, rfl⟩⟩
  nozzles := faults
  slots := fun k _ _ => by rw [h.ilu]
  starve := fun l _ => by rw [h.fal]
  gates := fun g => .inl (by rw [h.fal])

theorem latchSlot_processOnly (s : State) (k : SlotId) (d : Int) : ProcessOnly s (latchSlot s k d) :=
  ⟨⟨rfl, rfl, rfl, rfl, rfl, rfl, rfl, rfl, rfl, rfl, rfl⟩, rfl, rfl⟩

theorem updSlot_slotsKept (s : State) (k : SlotId) (f : AlarmSlot → AlarmSlot) :
    SlotsKept s (updSlot s k f) [k] :=
  fun j _ hj => updSlot_other s k j f (List.ne_of_not_mem_cons hj)

theorem latchSlot_framed (s : State) (k : SlotId) (d : Int) : Framed s (latchSlot s k d) [k] [] [] where
  loops := loopsKept_of_eq rfl []
  hoods := ⟨rfl, fun _ => ⟨rfl, rfl⟩⟩
  nozzles := fun _ _ => rfl
  slots := updSlot_slotsKept s k _
  starve := fun _ _ => rfl
  gates := fun _ => .inl rfl

/-- What a change of FLX leaves, with `settle` after it, beside the fault flags named. -/
theorem settled_flxChange {s u : State} {ns : List NozzleId} (h : FlxOnly s u) (faults : FaultsKept s u ns) :
    ProcessOnly s (settle u) ∧ Framed s (settle u) [] [] ns ∧ PotKept s (settle u) :=
  ⟨processOnly_trans h.processOnly (settle_frame u).process,
    framed_trans (h.framed faults) (framed_of_settled (settle_frame u) _ _ _),
    potKept_trans h.potKept (settle_frame u).pot⟩

/-! ### STUCK_VALVE_EXPIRY (R58, R63) -/

theorem exec_stuckValve {s : State} (run : Running s) (n : NozzleId) :
    exec (.stuckValveExpiry n) s = .next (ifDue (stuckDue s n) s (stickValve s n)) :=
  unlessHeld_running run fun s => ifDue (stuckDue s n) s (stickValve s n)

/-- The bar before `settle` in a stuck-valve expiry: the nozzle closed and faulted, a test on it ended. -/
def stuckBar (s : State) (n : NozzleId) : State :=
  updNozzle (closeValve (endStuckTest s n) n) n fun x => { x with faulted := true }

theorem stickValve_eq (s : State) (n : NozzleId) :
    stickValve s n = settle (latchSlot (stuckBar s n) slotNozzleStuck n.val) := rfl

theorem endStuckTest_flxOnly (s : State) (n : NozzleId) : FlxOnly s (endStuckTest s n) := by
  unfold endStuckTest; split
  · split
    · exact endTest_flxOnly s _
    · rfl
  · rfl

theorem endStuckTest_core (s : State) (n : NozzleId) : (endStuckTest s n).core = s.core := by
  unfold endStuckTest; split
  · split
    · exact endTest_core s _
    · rfl
  · rfl

theorem stuckBar_flxOnly (s : State) (n : NozzleId) : FlxOnly s (stuckBar s n) :=
  ((endStuckTest_flxOnly s n).trans (closeValve_flxOnly _ n)).trans rfl

theorem stuckBar_stuck (s : State) (n : NozzleId) : Stuck n (stuckBar s n) := by
  unfold Stuck stuckBar
  rw [getNozzle_updNozzle]
  exact ⟨rfl, closeValve_valve _ n⟩

theorem stuckBar_faults (s : State) (n : NozzleId) : FaultsKept s (stuckBar s n) [n] := by
  intro m hm
  unfold stuckBar
  rw [getNozzle_updNozzle_other _ _ _ _ (List.ne_of_not_mem_cons hm)]
  exact core_faulted ((closeValve_core _ n).trans (endStuckTest_core s n)) m

/-- A test on a nozzle whose valve is stuck is over, with cause STUCK (R63). -/
theorem stuckBar_test {s : State} {n : NozzleId} {d : Nat} {iv : Machine.Interval}
    (ht : s.flx.test = some ⟨n, d⟩) (hv : (getNozzle s n).valve = some iv) :
    TestOver (some (testRecord s.now ⟨n, d⟩ iv .stuck)) n (stuckBar s n) := by
  have ended : endStuckTest s n = endTest s .stuck := by unfold endStuckTest; rw [ht]; simp
  have closed : (getNozzle (stuckBar s n) n).valve = none := (stuckBar_stuck s n).2
  refine ⟨?_, ?_, fun x hx => by rw [closed] at hx; cases hx⟩
  · have k : (stuckBar s n).flx.test = (closeValve (endStuckTest s n) n).flx.test := rfl
    rw [k, closeValve_test, ended, endTest_test]
  · have k : (stuckBar s n).flx.lastTest = (closeValve (endStuckTest s n) n).flx.lastTest := rfl
    rw [k, closeValve_lastTest, ended, endTest_of_open ht hv]

theorem stuckValve_due {s : State} {n : NozzleId} {iv : Machine.Interval} (run : Running s)
    (hv : (getNozzle s n).valve = some iv) (due : iv.maxOpen ≤ elapsed s.now iv.openedAt) :
    ∃ t, exec (.stuckValveExpiry n) s = .next t ∧ (getNozzle t n).valve = none ∧
      (getNozzle t n).faulted = true ∧ t.ilu.slots[slotNozzleStuck].latched = true ∧
      t.ilu.slots[slotNozzleStuck].detail = n.val ∧
      (∀ d, s.flx.test = some ⟨n, d⟩ → t.flx.test = none ∧
        t.flx.lastTest = some (testRecord s.now ⟨n, d⟩ iv .stuck)) ∧
      ProcessOnly s t ∧ Framed s t [slotNozzleStuck] [] [n] ∧ PotKept s t := by
  let w := latchSlot (stuckBar s n) slotNozzleStuck n.val
  have isDue : stuckDue s n = true := by unfold stuckDue; rw [hv]; exact decide_eq_true due
  have flx := stuckBar_flxOnly s n
  have slot : (settle w).ilu.slots[slotNozzleStuck.val] = w.ilu.slots[slotNozzleStuck.val] :=
    settle_slot w slotNozzleStuck (by decide)
  have latched : w.ilu.slots[slotNozzleStuck.val] = _ := latchSlot_same _ _ _
  have stuck : Stuck n (settle w) := (stuck_fluxLaw n).settle (stuckBar_stuck s n)
  refine ⟨settle w, ?_, stuck.2, stuck.1, ?_, ?_, fun d ht => ?_, ?_, ?_, ?_⟩
  · rw [exec_stuckValve run, ifDue_true isDue, stickValve_eq]
  · rw [Fin.getElem_fin, slot, latched]
  · rw [Fin.getElem_fin, slot, latched]
  · obtain ⟨idle, last, -⟩ : TestOver _ n (settle w) := (testOver_fluxLaw _ n).settle (stuckBar_test ht hv)
    exact ⟨idle, last⟩
  · exact processOnly_trans (processOnly_trans flx.processOnly (latchSlot_processOnly _ _ _))
      (settle_frame w).process
  · have bar := framed_mono (flx.framed (stuckBar_faults s n)) (List.nil_subset [slotNozzleStuck])
      (List.nil_subset []) (List.Subset.refl [n])
    have latch := framed_mono (latchSlot_framed (stuckBar s n) slotNozzleStuck n.val)
      (List.Subset.refl _) (List.Subset.refl _) (List.nil_subset [n])
    exact framed_trans (framed_trans bar latch) (framed_of_settled (settle_frame w) _ _ _)
  · exact potKept_trans flx.potKept
      (potKept_trans (potKept_of_eq (latchSlot_pot _ _ _)) (settle_frame w).pot)

/-! ### VAPOUR_DWELL_EXPIRY (R61, R134) -/

theorem exec_vapourDwell {s : State} (run : Running s) :
    exec .vapourDwellExpiry s = .next (ifDue (dwellOver s) s (settle (expireDwell s))) :=
  unlessHeld_running run fun s => ifDue (dwellOver s) s (settle (expireDwell s))

theorem settle_level (s : State) (h : HoodId) : ∃ u : State, u.core = s.core ∧ u.flx = (settle s).flx ∧
    (getHood (settle s) h).level = levelOf u h := by
  obtain ⟨u, core, flx, -, e⟩ := settle_hood (s := s) (h := h) (P := fun _ => True) (fun _ _ _ => trivial) trivial
  refine ⟨u, core, flx, ?_⟩
  rw [e, judged]; simp only [counted_level, aired_level, required_level]

theorem levelOf_hoodF (s : State) : levelOf s hoodF =
    if s.flx.fluxing then .full else if s.mdc.mode = .run then .reduced else .least := rfl

theorem vapourDwell_due {s : State} {t0 : Time} (run : Running s) (running : s.flx.dwellFrom = some t0)
    (due : vapourDwell s ≤ elapsed s.now t0) (idle : BarIdle s) :
    ∃ t, exec .vapourDwellExpiry s = .next t ∧ t.flx.dwellFrom = none ∧ t.flx.fluxing = false ∧
      (getHood t hoodF).level = (if s.mdc.mode = .run then .reduced else .least) ∧
      ProcessOnly s t ∧ Framed s t [] [] [] ∧ PotKept s t := by
  have isOver : dwellOver s = true := by unfold dwellOver; rw [running]; exact decide_eq_true due
  have expired : expireDwell s = { s with flx := { s.flx with dwellFrom := none } } := by
    unfold expireDwell; rw [if_pos isOver]
  have still : Idle (settle (expireDwell s)) := idle_fluxLaw.settle (by rw [expired]; exact ⟨idle, rfl⟩)
  have trk : (settle (expireDwell s)).trk = s.trk := by rw [settle_trk, expired]
  have fluxing : (settle (expireDwell s)).flx.fluxing = false := by
    rw [Bool.eq_false_iff]
    intro e
    rcases (settle_fluxing_iff _).mp e with ⟨b, mem, opened⟩ | ⟨n, hn⟩ | dwell
    · rw [expired] at mem; exact idle.1 b mem opened
    · exact hn (still.1.2 n)
    · exact dwell still.2
  have kept := settled_flxChange (ns := []) (expireDwell_flxOnly s)
    (fun n _ => core_faulted (expireDwell_core s) n)
  refine ⟨settle (expireDwell s), ?_, still.2, fluxing, ?_, kept⟩
  · rw [exec_vapourDwell run, ifDue_true isOver]
  · obtain ⟨u, core, flx, level⟩ := settle_level (expireDwell s) hoodF
    rw [level, levelOf_hoodF, flx, fluxing, core_mdc (core.trans (expireDwell_core s))]
    rfl

/-! ### NOZZLE_TEST_ELAPSED (R63) -/

theorem exec_testElapsed {s : State} (run : Running s) :
    exec .nozzleTestElapsed s = .next (ifDue (testDue s) s (settle (endTest s .elapsed))) :=
  unlessHeld_running run fun s => ifDue (testDue s) s (settle (endTest s .elapsed))

theorem testDue_eq {s : State} {n : NozzleId} {d : Nat} {iv : Machine.Interval}
    (ht : s.flx.test = some ⟨n, d⟩) (hv : (getNozzle s n).valve = some iv) :
    testDue s = decide (d ≤ elapsed s.now iv.openedAt) := by
  unfold testDue; rw [ht]; simp only [hv]

/-- A test that ends with its valve open is over, with the record of its end (R63). -/
theorem endTest_over {s : State} {n : NozzleId} {d : Nat} {iv : Machine.Interval} (c : TestEnd)
    (ht : s.flx.test = some ⟨n, d⟩) (hv : (getNozzle s n).valve = some iv) :
    TestOver (some (testRecord s.now ⟨n, d⟩ iv c)) n (endTest s c) := by
  rw [endTest_of_open ht hv]
  refine ⟨rfl, rfl, fun x hx => ?_⟩
  have closed : (getNozzle (closeValve s n) n).valve = some x := hx
  rw [closeValve_valve] at closed; cases closed

theorem testElapsed_due {s : State} {n : NozzleId} {d : Nat} {iv : Machine.Interval} (run : Running s)
    (ht : s.flx.test = some ⟨n, d⟩) (hv : (getNozzle s n).valve = some iv)
    (due : d ≤ elapsed s.now iv.openedAt) : ∃ t, exec .nozzleTestElapsed s = .next t ∧ t.flx.test = none ∧
      t.flx.lastTest = some (testRecord s.now ⟨n, d⟩ iv .elapsed) ∧
      (∀ x, (getNozzle t n).valve = some x → x.owner ≠ .test) ∧
      ProcessOnly s t ∧ Framed s t [] [] [] ∧ PotKept s t := by
  have isDue : testDue s = true := by rw [testDue_eq ht hv]; exact decide_eq_true due
  obtain ⟨idle, last, own⟩ : TestOver _ n (settle (endTest s .elapsed)) :=
    (testOver_fluxLaw _ n).settle (endTest_over .elapsed ht hv)
  refine ⟨settle (endTest s .elapsed), ?_, idle, last, own,
    settled_flxChange (endTest_flxOnly s _) fun m _ => core_faulted (endTest_core s _) m⟩
  rw [exec_testElapsed run, ifDue_true isDue]

/-! ### The statement -/

/-- Settles O20: each expiry's own effect, kept through `settle` as a law of FLX. -/
theorem fluxTimersEnd : Obligations.FluxTimersEnd := by
  unfold Obligations.FluxTimersEnd
  refine ⟨fun s n run => ⟨fun iv hv due => stuckValve_due run hv due, fun hv => ?_, fun iv hv early => ?_⟩,
    fun s t0 run running => ⟨vapourDwell_due run running, fun early => ?_⟩,
    fun s n d iv run ht hv => ⟨testElapsed_due run ht hv, fun early => ?_⟩⟩
  · rw [exec_stuckValve run, ifDue_false (by unfold stuckDue; rw [hv])]
  · rw [exec_stuckValve run, ifDue_false (by unfold stuckDue; rw [hv]; exact decide_eq_false (not_le.mpr early))]
  · rw [exec_vapourDwell run,
      ifDue_false (by unfold dwellOver; rw [running]; exact decide_eq_false (not_le.mpr early))]
  · rw [exec_testElapsed run, ifDue_false (by rw [testDue_eq ht hv]; exact decide_eq_false (not_le.mpr early))]

end Sys2Proof.SelectiveFluxing
end

section
/-! SUPPORT. Requests as whole records (assumption 3), and the requests of FLX: NOZZLE_TEST (R62) and
FAULT_CLEAR of a nozzle (R59). -/

namespace Sys2Proof.SelectiveFluxing

open Sys2Proof.Machine Sys2Proof.Safety

/-! ### A request record dispatched (R182, R183) -/

/-- The state in which the owner of a request that arrives whole judges it: what MGE held is dropped, and the
dispatch is counted. -/
def arrived (s : State) : State :=
  { s with mge :=
    { reassembly := .idle
      response := none
      deferred := none
      dispatched := s.mge.dispatched + 1
      badRecords := s.mge.badRecords
      discarded := countIf s.mge.deferred.isSome (countIf s.mge.response.isSome s.mge.discarded) } }

/-- An owner that answers at once and leaves MGE alone: the response is the answer. -/
theorem arriveWhole_answered {s t : State} {q : Request} {r : Reply} (rid : Byte)
    (judged : runRequest (arrived s) q = (t, some r)) (mge : t.mge = (arrived s).mge) :
    arriveWhole s rid q = { t with mge := answered s rid q.kind r } := by
  have shape : arriveWhole s rid q = match runRequest (arrived s) q with
    | (t, some r) => answer t rid q.kind r
    | (t, none) => if q.kind = 18 then updMge t fun m => { m with deferred := some (rid, 18) } else t := rfl
  rw [shape, judged]
  simp only [answer, updMge, mge]
  rfl

/-- A request refused changes nothing but MGE. -/
theorem arriveWhole_only {s : State} {q : Request} {r : Reply} (rid : Byte)
    (judged : runRequest (arrived s) q = (arrived s, some r)) :
    arriveWhole s rid q = onlyAnswered s rid q.kind r := by
  rw [arriveWhole_answered rid judged rfl]; rfl

/-- A request carried out as an event of the process: the answer stands, and the frames hold of the state
before the request arrived. -/
theorem arriveWhole_frames {s t : State} {q : Request} {r : Reply} {ks : List SlotId} {ls : List LoopId}
    {ns : List NozzleId} (rid : Byte) (judged : runRequest (arrived s) q = (t, some r))
    (process : ProcessOnly (arrived s) t) (framed : Framed (arrived s) t ks ls ns)
    (pot : PotKept (arrived s) t) : ∃ v, arriveWhole s rid q = v ∧ v.flx = t.flx ∧ v.ilu = t.ilu ∧
      v.mge = answered s rid q.kind r ∧ Untouched s v ∧ v.trk = s.trk ∧ Framed s v ks ls ns ∧ PotKept s v :=
  ⟨{ t with mge := answered s rid q.kind r }, arriveWhole_answered rid judged process.mge, rfl, rfl, rfl,
    ⟨process.lines, process.now, process.tbs, process.lnk, process.mdc, process.phases, process.storage,
      process.limits, process.block, process.freeIndex, process.pending⟩, process.trk,
    ⟨framed.loops, framed.hoods, framed.nozzles, framed.slots, framed.starve, framed.gates⟩,
    ⟨pot.state, pot.readyAt, pot.idleFrom, pot.contact, pot.level, pot.feeder, pot.feederEnabled, pot.grams,
      pot.chip, pot.main⟩⟩

/-! ### A rise of the standing action (R154) -/

theorem reached_mono {s u v : State} {c : Nat} {ks : List SlotId} (g : SlotsGrow u v) (h : Reached s u c ks) :
    Reached s v c ks := by
  obtain ⟨k, hk, h⟩ := h
  exact ⟨k, hk, h.imp_right fun ⟨judged, latched⟩ => ⟨judged, (g k).1 latched⟩⟩

/-- What the standing action comes to in an event, a slot of that effective action has reached. -/
theorem reached_of_standing {s u : State} {c : Nat} (core : u.core = s.core) (g : SlotsGrow s u) (hc : 0 < c)
    (h : c ≤ standingOf u) : Reached s u c [] := by
  obtain ⟨k, hs, hk⟩ := exists_stands hc h
  have action : effectiveAction u k = effectiveAction s k := by
    unfold effectiveAction activeAction; rw [core_tbs core]
  have hold : holdOfSlot u k = holdOfSlot s k := by unfold holdOfSlot activeAction; rw [core_tbs core]
  refine ⟨k, action ▸ hk, ?_⟩
  unfold stands at hs ⊢
  rw [hold] at hs
  by_cases hj : Judged k
  · split at hs
    · exact ((g k).2 hs).imp_right fun latched => ⟨.inl hj, latched⟩
    · exact .inr ⟨.inl hj, hs⟩
  · have same := core_slot core k (judgedSlot_of_not_judged hj)
    simp only [Fin.getElem_fin] at hs ⊢
    rw [same] at hs
    exact .inl hs

/-! ### The law of a test just begun (R62, R63) -/

/-- The test runs with its valve open since the event, at the rate r; or the standing action reached
INHIBIT_FLUX_NOW and ended it with nothing sprayed. -/
def TestBegun (s : State) (k : NozzleId) (d r : Nat) (u : State) : Prop :=
  u.core = s.core ∧ SlotsGrow s u ∧
    ((u.flx.test = some ⟨k, d⟩ ∧ ∃ iv, (getNozzle u k).valve = some iv ∧ iv.owner = .test ∧
        iv.openedAt = s.now ∧ iv.rate = r) ∨
      (Reached s u 3 [] ∧ u.flx.test = none ∧ (∀ x, (getNozzle u k).valve = some x → x.owner ≠ .test) ∧
        ∃ x, u.flx.lastTest = some x ∧ x.nozzle = k ∧ x.requested = d ∧ x.openFor = 0 ∧ x.volume = 0 ∧
          x.cause = .inhibit))

/-- A change of FLX that is none of the test's own: a running test's valve stays, an ended test stays ended. -/
theorem testBegun_of_change {s u v : State} {k : NozzleId} {d r : Nat} (core : v.core = u.core)
    (g : SlotsGrow u v) (test : v.flx.test = u.flx.test) (last : v.flx.lastTest = u.flx.lastTest)
    (keeps : ∀ iv, u.flx.test = some ⟨k, d⟩ → (getNozzle u k).valve = some iv → iv.owner = .test →
      ∃ x, (getNozzle v k).valve = some x ∧ x.owner = .test ∧ x.openedAt = iv.openedAt ∧ x.rate = iv.rate)
    (none_new : ∀ x, (getNozzle v k).valve = some x → x.owner = .test →
      ∃ y, (getNozzle u k).valve = some y ∧ y.owner = .test) (h : TestBegun s k d r u) :
    TestBegun s k d r v := by
  obtain ⟨c, slots, h⟩ := h
  refine ⟨core.trans c, slots.trans g, ?_⟩
  rcases h with ⟨ht, iv, hv, own, at_, rate⟩ | ⟨reach, idle, no, x, hx, rest⟩
  · obtain ⟨x, hx, own', at', rate'⟩ := keeps iv ht hv own
    exact .inl ⟨test.trans ht, x, hx, own', at'.trans at_, rate'.trans rate⟩
  · refine .inr ⟨reached_mono g reach, test.trans idle, fun x hx e => ?_, x, last.trans hx, rest⟩
    obtain ⟨y, hy, ey⟩ := none_new x hx e
    exact no y hy ey

/-- The same where the nozzle's valve is as it was. -/
theorem testBegun_of_same {s u v : State} {k : NozzleId} {d r : Nat} (core : v.core = u.core)
    (g : SlotsGrow u v) (test : v.flx.test = u.flx.test) (last : v.flx.lastTest = u.flx.lastTest)
    (valve : (getNozzle v k).valve = (getNozzle u k).valve) (h : TestBegun s k d r u) : TestBegun s k d r v :=
  testBegun_of_change core g test last (fun iv _ hv own => ⟨iv, valve.trans hv, own, rfl, rfl⟩)
    (fun x hx own => ⟨x, valve.symm.trans hx, own⟩) h

theorem elapsed_self (t : Time) : elapsed t t = 0 := by simp [elapsed]

theorem testBegun_fluxLaw (s : State) (k : NozzleId) (d r : Nat) : FluxLaw (TestBegun s k d r) where
  beside := fun core flx g h =>
    testBegun_of_same core g (by rw [flx]) (by rw [flx]) (by rw [getNozzle_of_flx flx]) h
  close := fun {u m iv} hv free h => by
    have g := (closeValve_flxOnly u m).slotsGrow
    by_cases e : m = k
    · subst e
      refine testBegun_of_change (closeValve_core u m) g (closeValve_test u m) (closeValve_lastTest u m)
        (fun x ht hx own => ?_) (fun x hx => ?_) h
      · rw [hv] at hx; cases hx
        rcases free with no | idle
        · exact absurd own no
        · rw [idle] at ht; cases ht
      · rw [closeValve_valve] at hx; cases hx
    · exact testBegun_of_same (closeValve_core u m) g (closeValve_test u m) (closeValve_lastTest u m)
        (by rw [getNozzle_closeValve e]) h
  opens := fun {u m p} closed _ h => by
    by_cases e : m = k
    · subst e
      refine testBegun_of_change (openValve_core u m _) (.of_eq rfl) rfl rfl (fun x _ hx => ?_)
        (fun x hx own => ?_) h
      · rw [closed] at hx; cases hx
      · rw [getNozzle_openValve_same] at hx; cases hx; cases own
    · exact testBegun_of_same (openValve_core u m _) (.of_eq rfl) rfl rfl (by rw [getNozzle_openValve _ e]) h
  ends := fun {u} high h => by
    have begun := h
    obtain ⟨core, slots, ⟨ht, iv, hv, own, at_, rate⟩ | ⟨-, idle, -⟩⟩ := h
    · obtain ⟨none_runs, last, no⟩ := endTest_over .inhibit ht hv
      have grown := slots.trans (endTest_flxOnly u .inhibit).slotsGrow
      have reach := reached_mono (endTest_flxOnly u .inhibit).slotsGrow
        (reached_of_standing core slots (by decide) high)
      have zero : elapsed u.now iv.openedAt = 0 := by rw [at_, core_now core, elapsed_self]
      refine ⟨(endTest_core u _).trans core, grown, .inr ⟨reach, none_runs, no, _, last, rfl, rfl, zero, ?_, rfl⟩⟩
      simp [testRecord, intervalVolume, zero]
    · rw [endTest_of_idle idle]; exact begun
  cut := fun h => testBegun_of_same (cutAccounts_core _ _) (.of_eq rfl) rfl rfl rfl h
  doubt := fun {u} h => by
    obtain ⟨-, test, last, -⟩ := markDoubt_beside u
    have kept (x : Option Machine.Interval) : (x.map fun iv => { iv with doubt := true }).map
        (fun iv => (iv.owner, iv.openedAt, iv.rate)) = x.map fun iv => (iv.owner, iv.openedAt, iv.rate) := by
      cases x <;> rfl
    have valve : (getNozzle (markDoubt u) k).valve.map (fun iv => (iv.owner, iv.openedAt, iv.rate)) =
        (getNozzle u k).valve.map fun iv => (iv.owner, iv.openedAt, iv.rate) := by
      rw [getNozzle_markDoubt]; split
      · exact kept _
      · rfl
    refine testBegun_of_change (markDoubt_core u) (markDoubt_flxOnly u).slotsGrow test last
      (fun iv _ hv own => ?_) (fun x hx own => ?_) h
    · rw [hv, Option.map_some] at valve
      obtain ⟨x, hx, e⟩ := Option.map_eq_some_iff.mp valve
      simp only [Prod.mk.injEq] at e
      exact ⟨x, hx, e.1.trans own, e.2.1, e.2.2⟩
    · rw [hx, Option.map_some] at valve
      obtain ⟨y, hy, e⟩ := Option.map_eq_some_iff.mp valve.symm
      simp only [Prod.mk.injEq] at e
      exact ⟨y, hy, e.1.trans own⟩
  dwell := fun h => testBegun_of_same (flx_core _ _ rfl) (.of_eq rfl) rfl rfl rfl h
  fluxing := fun h => testBegun_of_same (judgeFluxing_core _) (.of_eq rfl) rfl rfl rfl h

/-! ### NOZZLE_TEST (R62) -/

theorem exec_nozzleTest {s : State} (run : Running s) (rid : Byte) (n d : Nat) :
    exec (.nozzleTest rid n d) s = .next (arriveWhole s rid (.nozzleTest n d)) :=
  unlessHeld_running run fun s => arriveWhole s rid (.nozzleTest n d)

theorem runRequest_nozzleTest (s : State) (n d : Nat) :
    runRequest s (.nozzleTest n d) = atOnce (testRequest s n d) := rfl

theorem nozzleOf_of_lt {n : Nat} {k : NozzleId} (h : k.val = n) : nozzleOf n = some k := by
  unfold nozzleOf; subst h; simp

theorem nozzleOf_of_le {n : Nat} (h : 8 ≤ n) : nozzleOf n = none := by
  unfold nozzleOf; rw [dif_neg (by omega)]

theorem testRequest_range {s : State} {n d : Nat} (h : ¬ (n < 8 ∧ 1 ≤ d ∧ d ≤ 2000)) :
    testRequest s n d = (s, refused .range) := by
  unfold testRequest
  by_cases hn : n < 8
  · rw [nozzleOf_of_lt (k := ⟨n, hn⟩) rfl]
    exact if_pos (by omega)
  · rw [nozzleOf_of_le (by omega)]

theorem testRequest_ranged {s : State} {n d : Nat} {k : NozzleId} (hk : k.val = n) (lo : 1 ≤ d) (hi : d ≤ 2000) :
    testRequest s n d = match testRefusal s k with
      | some r => (s, r)
      | none => (startTest s k d, done []) := by
  unfold testRequest
  rw [nozzleOf_of_lt hk]
  exact if_neg (by omega)

/-- The last check of NOZZLE_TEST in the words of R62. -/
theorem testAllowed_iff {s : State} {k : NozzleId} : testAllowed s k = true ↔
    ∃ e, (getNozzle s k).inForce = some e ∧ e.enabled = true ∧ (getNozzle s k).faulted = false ∧
      s.ilu.standing < 3 := by
  unfold testAllowed
  cases (getNozzle s k).inForce with
  | none => simp
  | some e => simp; tauto

theorem nozzleTest_refused {s : State} (run : Running s) (rid : Byte) {n d : Nat} {k : NozzleId} {r : Reply}
    (hk : k.val = n) (lo : 1 ≤ d) (hi : d ≤ 2000) (refusal : testRefusal s k = some r) :
    exec (.nozzleTest rid n d) s = .next (onlyAnswered s rid 16 r) := by
  have same : testRefusal (arrived s) k = some r := refusal
  rw [exec_nozzleTest run, arriveWhole_only rid (r := r)]
  · rfl
  · rw [runRequest_nozzleTest, testRequest_ranged hk lo hi, same]; rfl

/-- The state a test begins in, before `settle`. -/
def testBegin (s : State) (k : NozzleId) (d : Nat) : State :=
  { openValve s k .test with flx := { (openValve s k .test).flx with test := some ⟨k, d⟩ } }

theorem startTest_eq (s : State) (k : NozzleId) (d : Nat) : startTest s k d = settle (testBegin s k d) := rfl

theorem testBegin_core (s : State) (k : NozzleId) (d : Nat) : (testBegin s k d).core = s.core :=
  (flx_core _ _ rfl).trans (openValve_core s k _)

theorem testBegin_begun {s : State} {k : NozzleId} {d : Nat} {e : NozzleEntry}
    (he : (getNozzle s k).inForce = some e) : TestBegun s k d e.flow (testBegin s k d) := by
  have valve : (getNozzle (testBegin s k d) k).valve = some (openedInterval s k .test) :=
    congrArg Nozzle.valve (getNozzle_openValve_same s k .test)
  refine ⟨testBegin_core s k d, .of_eq rfl, .inl ⟨rfl, _, valve, rfl, rfl, ?_⟩⟩
  unfold openedInterval; rw [he]

theorem nozzleTest_allowed {s : State} (run : Running s) (rid : Byte) {n d : Nat} {k : NozzleId} {e : NozzleEntry}
    (hk : k.val = n) (lo : 1 ≤ d) (hi : d ≤ 2000) (refusal : testRefusal s k = none)
    (he : (getNozzle s k).inForce = some e) :
    ∃ t, exec (.nozzleTest rid n d) s = .next t ∧
      t.mge = answered s rid 16 (done []) ∧ Untouched s t ∧ t.trk = s.trk ∧
      Framed s t [] [] [] ∧ PotKept s t ∧
      ((t.flx.test = some ⟨k, d⟩ ∧ ∃ iv, (getNozzle t k).valve = some iv ∧ iv.owner = .test ∧
          iv.openedAt = s.now ∧ iv.rate = e.flow) ∨
        (Reached s t 3 [] ∧ t.flx.test = none ∧
          (∀ x, (getNozzle t k).valve = some x → x.owner ≠ .test) ∧
          ∃ r, t.flx.lastTest = some r ∧ r.nozzle = k ∧ r.requested = d ∧ r.openFor = 0 ∧
            r.volume = 0 ∧ r.cause = .inhibit)) := by
  have same : testRefusal (arrived s) k = none := refusal
  have request : runRequest (arrived s) (.nozzleTest n d) = (settle (testBegin (arrived s) k d), some (done [])) := by
    rw [runRequest_nozzleTest, testRequest_ranged hk lo hi, same]; simp only [atOnce, startTest_eq]
  obtain ⟨process, framed, pot⟩ := settled_flxChange (s := arrived s) (u := testBegin (arrived s) k d) (ns := [])
    rfl fun m _ => core_faulted (testBegin_core _ k d) m
  obtain ⟨v, hv, flx, ilu, mge, untouched, trk, framed, pot⟩ := arriveWhole_frames rid request process framed pot
  obtain ⟨-, -, begun⟩ : TestBegun (arrived s) k d e.flow (settle (testBegin (arrived s) k d)) :=
    (testBegun_fluxLaw _ k d _).settle (testBegin_begun (s := arrived s) he)
  refine ⟨v, by rw [exec_nozzleTest run, hv], mge, untouched, trk, framed, pot, ?_⟩
  rw [← getNozzle_of_flx flx k, ← flx] at begun
  refine begun.imp_right fun ⟨⟨slot, action, reach⟩, rest⟩ => ⟨⟨slot, action, ?_⟩, rest⟩
  rw [ilu]; exact reach

/-! ### FAULT_CLEAR of a nozzle (R59) -/

theorem exec_clearNozzle {s : State} (run : Running s) (rid : Byte) (n : Nat) :
    exec (.faultClearNozzle rid n) s = .next (arriveWhole s rid (.clearNozzle n)) :=
  unlessHeld_running run fun s => arriveWhole s rid (.clearNozzle n)

theorem runRequest_clearNozzle (s : State) (n : Nat) :
    runRequest s (.clearNozzle n) = atOnce (clearNozzleRequest s n) := rfl

theorem clearNozzle_refused {s : State} (run : Running s) (rid : Byte) {n : Nat} {r : Reply}
    (h : clearNozzleRequest (arrived s) n = (arrived s, r)) :
    exec (.faultClearNozzle rid n) s = .next (onlyAnswered s rid 14 r) := by
  rw [exec_clearNozzle run, arriveWhole_only rid (r := r)]
  · rfl
  · rw [runRequest_clearNozzle, h]; rfl

theorem clearNozzle_done {s : State} (run : Running s) (rid : Byte) {n : Nat} {k : NozzleId} (hk : k.val = n)
    (maint : s.lines.maint = true) : ∃ t,
      exec (.faultClearNozzle rid n) s = .next t ∧ (getNozzle t k).faulted = false ∧
      t.mge = answered s rid 14 (done (putBool (getNozzle s k).faulted)) ∧ Untouched s t ∧
      t.trk = s.trk ∧ Framed s t [] [] [k] ∧ PotKept s t := by
  let u := updNozzle (arrived s) k fun x => { x with faulted := false }
  have faults : FaultsKept (arrived s) u [k] := fun m hm =>
    congrArg Nozzle.faulted (getNozzle_updNozzle_other _ _ _ _ (List.ne_of_not_mem_cons hm))
  have line : (arrived s).lines.maint = true := maint
  have request : runRequest (arrived s) (.clearNozzle n) =
      (settle u, some (done (putBool (getNozzle s k).faulted))) := by
    rw [runRequest_clearNozzle, clearNozzleRequest, nozzleOf_of_lt hk]
    simp only [line, atOnce, if_neg, Bool.true_eq_false, not_false_eq_true]
    rfl
  obtain ⟨process, framed, pot⟩ := settled_flxChange (rfl : FlxOnly (arrived s) u) faults
  obtain ⟨v, hv, flx, -, mge, untouched, trk, framed, pot⟩ := arriveWhole_frames rid request process framed pot
  refine ⟨v, by rw [exec_clearNozzle run, hv], ?_, mge, untouched, trk, framed, pot⟩
  rw [getNozzle_of_flx flx, core_faulted (settle_core u) k, getNozzle_updNozzle]

/-! ### The statement -/

/-- Settles O22: the checks in the order of R62 and R59; a test begun keeps `TestBegun` through `settle`. -/
theorem nozzleRequests : Obligations.NozzleRequests := by
  unfold Obligations.NozzleRequests
  refine ⟨fun s rid n d run => ⟨fun bad => ?_, fun ⟨hn, lo, hi⟩ maint => ?_, fun ⟨hn, lo, hi⟩ maint mode => ?_,
      fun ⟨hn, lo, hi⟩ maint mode test => ?_, fun ⟨hn, lo, hi⟩ maint mode test k hk => ?_⟩,
    fun s rid n run => ⟨fun hn => ?_, fun hn maint => ?_, fun k hk => clearNozzle_done run rid hk⟩⟩
  · rw [exec_nozzleTest run, arriveWhole_only rid (r := refused .range)]
    · rfl
    · rw [runRequest_nozzleTest, testRequest_range bad]; rfl
  · exact nozzleTest_refused run rid (k := ⟨n, hn⟩) rfl lo hi (by simp [testRefusal, maint])
  · exact nozzleTest_refused run rid (k := ⟨n, hn⟩) rfl lo hi (by simp [testRefusal, maint, mode])
  · exact nozzleTest_refused run rid (k := ⟨n, hn⟩) rfl lo hi (by simp [testRefusal, maint, mode, test])
  · cases allowed : testAllowed s k with
    | true =>
      obtain ⟨e, he, enabled, faulted, standing⟩ := testAllowed_iff.mp allowed
      exact .inl ⟨e, he, enabled, faulted, standing,
        nozzleTest_allowed run rid hk lo hi (by simp [testRefusal, maint, mode, test, allowed]) he⟩
    | false =>
      refine .inr ⟨fun h => ?_,
        nozzleTest_refused run rid hk lo hi (by simp [testRefusal, maint, mode, test, allowed])⟩
      rw [testAllowed_iff.mpr h] at allowed; cases allowed
  · exact clearNozzle_refused run rid (by rw [clearNozzleRequest, nozzleOf_of_le hn])
  · have line : (arrived s).lines.maint = false := maint
    exact clearNozzle_refused run rid (by
      rw [clearNozzleRequest, nozzleOf_of_lt (k := ⟨n, hn⟩) rfl]
      simp only [line, if_true])

end Sys2Proof.SelectiveFluxing
end

section
/-! SUPPORT. Spray windows and accounts (R49, R50, R53, R55, R57): the opening and closing of a spray window,
and what the closing of a board's valves pays to its account. -/

namespace Sys2Proof.SelectiveFluxing

open Sys2Proof.Machine Sys2Proof.Safety

/-! ### The opening and closing of a spray window (R12, R49, R50) -/

/-- The disposition of the table of R49. -/
theorem dispositionOf_eq (s : State) (b : BoardRecord) : dispositionOf s b = match boardRecipe s b with
    | none => .noMap
    | some r => if r.fluxMap = none then .noMap else if b.flags.skipFlux = true then .skipped
      else if 2 ≤ s.ilu.standing then .skipped else .toSpray := by
  unfold dispositionOf
  cases boardRecipe s b with
  | none => rfl
  | some r => cases h : r.fluxMap <;> simp [h]

theorem judgeWindow_opens {s : State} {g : Geometry} {b : Board} (found : findBoard s b.data.pIn = some b)
    (before : b.windows.spray = .before) (reached : evalPoint g ≤ leading s b.data) :
    judgeWindowOf g b.data.pIn s .spray = openSpray (putWindow s b.data.pIn .spray .opened) b.data := by
  unfold judgeWindowOf
  rw [found]
  simp only [Windows.get, before]
  rw [if_pos (show (windowSpan g .spray).1 ≤ leading s b.data from reached)]
  rfl

theorem judgeWindow_closes {s : State} {g : Geometry} {b : Board} (found : findBoard s b.data.pIn = some b)
    (opened : b.windows.spray = .opened) (past : evalPoint g < trailing s b.data) :
    judgeWindowOf g b.data.pIn s .spray =
      windowClosed (putWindow s b.data.pIn .spray .closed) .spray b.data false := by
  unfold judgeWindowOf
  rw [found]
  simp only [Windows.get, opened]
  rw [if_pos (show (windowSpan g .spray).2 < trailing s b.data from past)]

/-! ### The board of a position -/

theorem find?_map_keeping {α β : Type} [DecidableEq β] (key : α → β) (f : α → α) (h : ∀ a, key (f a) = key a)
    (l : List α) (b : β) : (l.map f).find? (fun a => key a = b) = (l.find? fun a => key a = b).map f := by
  rw [List.find?_map]
  simp only [Function.comp_def, h]

theorem findBoard_updBoard {s : State} {p : Pos} {f : Board → Board} {x : Board}
    (h : ∀ y, (f y).data.pIn = y.data.pIn) (found : findBoard s p = some x) :
    findBoard (updBoard s p f) p = some (f x) := by
  have own : x.data.pIn = p := by simpa using List.find?_some found
  have keep (y : Board) : (if y.data.pIn = p then f y else y).data.pIn = y.data.pIn := by
    split
    · exact h y
    · rfl
  have k := find?_map_keeping (fun y : Board => y.data.pIn) _ keep s.trk.queue p
  refine k.trans ?_
  have e : s.trk.queue.find? (fun y => y.data.pIn = p) = some x := found
  rw [e, Option.map_some, if_pos own]

theorem accountOf_map {s t : State} {f : Account → Account} (h : ∀ a, (f a).board = a.board)
    (e : t.flx.accounts = s.flx.accounts.map f) (p : Pos) : accountOf t p = (accountOf s p).map f := by
  unfold accountOf
  rw [e]
  exact find?_map_keeping Account.board f h _ _

/-! ### Valves closed together -/

/-- One nozzle's step of `closeValves`. -/
def closeIf (p : Interval → Bool) (s : State) (n : NozzleId) : State :=
  match (getNozzle s n).valve with
  | some iv => if p iv then closeValve s n else s
  | none => s

theorem closeValves_eq (s : State) (p : Interval → Bool) : closeValves s p = allNozzles.foldl (closeIf p) s := rfl

theorem closeIf_flxOnly (p : Interval → Bool) (s : State) (n : NozzleId) : FlxOnly s (closeIf p s n) := by
  unfold closeIf; split
  · split
    · exact closeValve_flxOnly s n
    · rfl
  · rfl

theorem getNozzle_closeIf_other {p : Interval → Bool} {s : State} {n m : NozzleId} (h : n ≠ m) :
    getNozzle (closeIf p s n) m = getNozzle s m := by
  unfold closeIf; split
  · split
    · exact getNozzle_closeValve h
    · rfl
  · rfl

/-- What `closeValves` does to a nozzle is that nozzle's own step. -/
theorem getNozzle_closeValves (s : State) (p : Interval → Bool) (n : NozzleId) :
    ∃ u, getNozzle u n = getNozzle s n ∧ getNozzle (closeValves s p) n = getNozzle (closeIf p u n) n := by
  obtain ⟨u, -, own, e⟩ := foldl_own (fun u => getNozzle u n) (fun _ => True) (closeIf p) n
    (fun u m hm => getNozzle_closeIf_other hm) (fun _ _ h => h) nodup_allNozzles (mem_allNozzles n)
    (s := s) trivial
  exact ⟨u, own, e⟩

theorem closeValves_closed {s : State} {p : Interval → Bool} {n : NozzleId} {iv : Machine.Interval}
    (hv : (getNozzle s n).valve = some iv) (hp : p iv = true) : (getNozzle (closeValves s p) n).valve = none := by
  obtain ⟨u, own, e⟩ := getNozzle_closeValves s p n
  rw [e, closeIf, own, hv]
  simp only [hp, if_true]
  exact closeValve_valve u n

theorem closeValves_kept {s : State} {p : Interval → Bool} {n : NozzleId}
    (h : ∀ iv, (getNozzle s n).valve = some iv → p iv = false) :
    getNozzle (closeValves s p) n = getNozzle s n := by
  obtain ⟨u, own, e⟩ := getNozzle_closeValves s p n
  rw [e, ← own]
  unfold closeIf; split
  · next iv hv => rw [if_neg (by rw [h iv (own ▸ hv)]; decide)]
  · rfl

/-! ### What the closing of valves pays (R53) -/

theorem credit_board (now : Time) (iv : Machine.Interval) (a : Account) :
    (Account.credit now iv a).board = a.board := by
  unfold Account.credit; split <;> rfl

theorem credit_disposition (now : Time) (iv : Machine.Interval) (a : Account) :
    (Account.credit now iv a).disposition = a.disposition := by
  unfold Account.credit; split <;> rfl

theorem credit_bound (now : Time) (iv : Machine.Interval) {a : Account} (bound : a.volume ≤ Config.max32) :
    (Account.credit now iv a).volume ≤ Config.max32 := by
  unfold Account.credit; split
  · exact Nat.min_le_left _ _
  · exact bound

/-- An account after one nozzle's step of `closeValves`. -/
def paid (now : Time) (o : Option Machine.Interval) (a : Account) : Account :=
  match o with
  | some iv => Account.credit now iv a
  | none => a

theorem paid_board (now : Time) (o : Option Machine.Interval) (a : Account) : (paid now o a).board = a.board := by
  cases o
  · rfl
  · exact credit_board _ _ _

/-- The interval of a nozzle that `closeValves` closes. -/
def closing (p : Interval → Bool) (s : State) (n : NozzleId) : Option Machine.Interval :=
  (getNozzle s n).valve.filter p

theorem closeIf_accounts (p : Interval → Bool) (s : State) (n : NozzleId) :
    (closeIf p s n).flx.accounts = s.flx.accounts.map (paid s.now (closing p s n)) := by
  unfold closeIf closing
  cases hv : (getNozzle s n).valve with
  | none => exact (List.map_id _).symm
  | some iv =>
    cases hp : p iv with
    | false => simp only [Option.filter, hp]; exact (List.map_id _).symm
    | true => simp only [Option.filter, hp, if_true]; exact closeValve_accounts hv

/-- An account after every nozzle's step. -/
def paidAll (p : Interval → Bool) (s : State) (l : List NozzleId) (a : Account) : Account :=
  l.foldl (fun a n => paid s.now (closing p s n) a) a

theorem foldl_closeIf_accounts (p : Interval → Bool) {l : List NozzleId} (nodup : l.Nodup) (s : State) :
    (l.foldl (closeIf p) s).flx.accounts = s.flx.accounts.map (paidAll p s l) := by
  induction l generalizing s with
  | nil => exact (List.map_id _).symm
  | cons n l ih =>
    obtain ⟨hn, hl⟩ := List.nodup_cons.mp nodup
    have rest (a : Account) : paidAll p (closeIf p s n) l a = paidAll p s l a := by
      refine List.foldl_ext _ _ a fun a m hm => ?_
      unfold closing
      rw [(closeIf_flxOnly p s n).now, getNozzle_closeIf_other fun e => hn (by rw [e]; exact hm)]
    rw [List.foldl_cons, ih hl, closeIf_accounts, List.map_map]
    exact List.map_congr_left fun a _ => rest _

theorem closeValves_accounts (s : State) (p : Interval → Bool) :
    (closeValves s p).flx.accounts = s.flx.accounts.map (paidAll p s allNozzles) := by
  rw [closeValves_eq]; exact foldl_closeIf_accounts p nodup_allNozzles s

theorem paidAll_board (p : Interval → Bool) (s : State) (l : List NozzleId) (a : Account) :
    (paidAll p s l a).board = a.board := by
  unfold paidAll
  induction l generalizing a with
  | nil => rfl
  | cons n l ih => rw [List.foldl_cons, ih, paid_board]

/-- The intervals of one board. -/
def ofBoard (p : Pos) (iv : Interval) : Bool := iv.owner = .board p

/-- The closing of a board's valves leaves the accounts of the others. -/
theorem paidAll_other {p : Pos} {a : Account} (h : a.board ≠ p) (s : State) (l : List NozzleId) :
    paidAll (ofBoard p) s l a = a := by
  have step (n : NozzleId) : paid s.now (closing (ofBoard p) s n) a = a := by
    cases hc : closing (ofBoard p) s n with
    | none => rfl
    | some iv =>
      have own : iv.owner = .board p := by simpa [ofBoard] using (Option.filter_eq_some_iff.mp hc).2
      refine if_neg fun e => h ?_
      rw [own] at e
      exact (ValveOwner.board.inj e).symm
  unfold paidAll
  induction l with
  | nil => rfl
  | cons n l ih => rw [List.foldl_cons, step, ih]

/-- The volume of what a nozzle's closing pays, in nl. -/
def owed (now : Time) (o : Option Machine.Interval) : Nat :=
  match o with
  | some iv => elapsed now iv.openedAt * iv.rate
  | none => 0

/-- The closing of a board's valves pays all their volumes to its account, saturating, and their doubt. -/
theorem paidAll_own {p : Pos} {a : Account} (own : a.board = p) (bound : a.volume ≤ Config.max32) (s : State)
    (l : List NozzleId) : paidAll (ofBoard p) s l a = { a with
      volume := min Config.max32 (a.volume + (l.map fun n => owed s.now (closing (ofBoard p) s n)).sum)
      uncertain := a.uncertain || l.any fun n => (closing (ofBoard p) s n).any Interval.doubt } := by
  unfold paidAll
  induction l generalizing a with
  | nil =>
    rw [List.foldl_nil, List.map_nil, List.sum_nil, List.any_nil, Nat.add_zero, Nat.min_eq_right bound,
      Bool.or_false]
  | cons n l ih =>
    rw [List.foldl_cons, ih ((paid_board _ _ _).trans own)]
    · cases hc : closing (ofBoard p) s n with
      | none => simp [paid, owed, hc]
      | some iv =>
        have mine : iv.owner = .board a.board := by
          rw [own]; simpa [ofBoard] using (Option.filter_eq_some_iff.mp hc).2
        simp only [paid, Account.credit, if_pos mine, satAdd, intervalVolume, List.map_cons, List.sum_cons,
          List.any_cons, owed, hc, Option.any_some, Bool.or_assoc, Account.mk.injEq, true_and, and_true]
        omega
    · cases closing (ofBoard p) s n with
      | none => exact bound
      | some iv => exact credit_bound s.now iv bound

/-! ### The closing of a spray window (R50, R55, R57) -/

/-- The bar when the outcome is judged: the account cut in a purge, the board's valves closed. -/
def sprayShut (s : State) (b : BoardRecord) (purged : Bool) : State :=
  closeValves (if purged then cutAccounts s (fun a => a.board = b.pIn) else s) (ofBoard b.pIn)

/-- The flux part written and the account removed. -/
def sprayWritten (s : State) (b : BoardRecord) (out : FluxOutcome) (volume : Nat) : State :=
  let s := updBoard s b.pIn fun x => { x with data := { x.data with flux := some ⟨out, volume⟩ } }
  { s with flx := { s.flx with accounts := s.flx.accounts.filter fun a => a.board ≠ b.pIn } }

/-- The flux part written, the account removed, and FLUX_OUT_OF_TOL latched for an outcome that alarms. -/
def sprayJudged (s : State) (b : BoardRecord) (out : FluxOutcome) (volume : Nat) : State :=
  if out.alarms then latchSlot (sprayWritten s b out volume) slotFluxTol b.tag else sprayWritten s b out volume

theorem closeSpray_eq {s : State} {b : BoardRecord} {purged : Bool} {a : Account}
    (h : accountOf (sprayShut s b purged) b.pIn = some a) : closeSpray s b purged =
      sprayJudged (sprayShut s b purged) b (fluxOutcome a (boardRecipe (sprayShut s b purged) b)) a.volume := by
  have shut : closeValves (if purged then cutAccounts s (fun a => a.board = b.pIn) else s)
      (fun iv => iv.owner = .board b.pIn) = sprayShut s b purged := rfl
  unfold closeSpray
  simp only [shut, h]
  rfl

/-- The account of a board after a purge's cut, if there is one. -/
def cutIf (purged : Bool) (a : Account) : Account := if purged then a.cutOff else a

theorem cutIf_beside (purged : Bool) (a : Account) : (cutIf purged a).board = a.board ∧
    (cutIf purged a).volume = a.volume ∧ (cutIf purged a).uncertain = a.uncertain := by
  unfold cutIf Account.cutOff
  split
  · split <;> exact ⟨rfl, rfl, rfl⟩
  · exact ⟨rfl, rfl, rfl⟩

/-- The part of a completion that is before the valves close. -/
theorem cutFirst (s : State) (p : Pos) (purged : Bool) :
    let u := if purged then cutAccounts s (fun a => a.board = p) else s
    FlxOnly s u ∧ u.flx.nozzles = s.flx.nozzles ∧
      u.flx.accounts = s.flx.accounts.map fun a => if a.board = p then cutIf purged a else a := by
  cases purged
  · refine ⟨rfl, rfl, ?_⟩
    simp [cutIf]
  · refine ⟨rfl, rfl, ?_⟩
    simp [cutIf, cutAccounts]

theorem sprayShut_flxOnly (s : State) (b : BoardRecord) (purged : Bool) : FlxOnly s (sprayShut s b purged) :=
  (cutFirst s b.pIn purged).1.trans (closeValves_flxOnly _ _)

/-- What the valves of the board pay when they close now. -/
theorem sprayShut_accounts (s : State) (b : BoardRecord) (purged : Bool) :
    (sprayShut s b purged).flx.accounts = s.flx.accounts.map fun a =>
      paidAll (ofBoard b.pIn) s allNozzles (if a.board = b.pIn then cutIf purged a else a) := by
  obtain ⟨only, nozzles, accounts⟩ := cutFirst s b.pIn purged
  have same (a : Account) : paidAll (ofBoard b.pIn) (if purged then cutAccounts s (fun a => a.board = b.pIn) else s)
      allNozzles a = paidAll (ofBoard b.pIn) s allNozzles a := by
    refine List.foldl_ext _ _ a fun a n _ => ?_
    unfold closing
    rw [only.now, getNozzle_of_nozzles nozzles n]
  rw [sprayShut, closeValves_accounts, accounts, List.map_map]
  exact List.map_congr_left fun a _ => same _

/-- The account the outcome is judged on. -/
theorem sprayShut_account {s : State} {b : BoardRecord} {purged : Bool} {a : Account}
    (found : accountOf s b.pIn = some a) (bound : a.volume ≤ Config.max32) :
    accountOf (sprayShut s b purged) b.pIn = some { cutIf purged a with
      volume := min Config.max32 (a.volume + (allNozzles.map fun n => owed s.now (closing (ofBoard b.pIn) s n)).sum)
      uncertain := a.uncertain || allNozzles.any fun n => (closing (ofBoard b.pIn) s n).any Interval.doubt } := by
  have own : a.board = b.pIn := by simpa using List.find?_some found
  obtain ⟨board, volume, uncertain⟩ := cutIf_beside purged a
  rw [accountOf_map (fun a => ?_) (sprayShut_accounts s b purged), found, Option.map_some, if_pos own,
    paidAll_own (board.trans own) (volume.symm ▸ bound), volume, uncertain]
  rw [paidAll_board]
  split
  · exact (cutIf_beside purged a).1
  · rfl

theorem sprayShut_others (s : State) (b : BoardRecord) (purged : Bool) :
    ((sprayShut s b purged).flx.accounts.filter fun a => a.board ≠ b.pIn) =
      s.flx.accounts.filter fun a => a.board ≠ b.pIn := by
  rw [sprayShut_accounts, List.filter_map]
  have board (a : Account) : (paidAll (ofBoard b.pIn) s allNozzles
      (if a.board = b.pIn then cutIf purged a else a)).board = a.board := by
    rw [paidAll_board]; split
    · exact (cutIf_beside purged a).1
    · rfl
  simp only [Function.comp_def, board]
  refine (List.map_congr_left fun a ha => ?_).trans (List.map_id _)
  have ne : a.board ≠ b.pIn := by simpa using (List.mem_filter.mp ha).2
  rw [if_neg ne, paidAll_other ne]; rfl

theorem sprayShut_nozzle (s : State) (b : BoardRecord) (purged : Bool) (n : NozzleId) :
    ((closing (ofBoard b.pIn) s n).isSome = true → (getNozzle (sprayShut s b purged) n).valve = none) ∧
    (closing (ofBoard b.pIn) s n = none → getNozzle (sprayShut s b purged) n = getNozzle s n) := by
  have same := getNozzle_of_nozzles (cutFirst s b.pIn purged).2.1 n
  unfold closing
  constructor
  · intro h
    obtain ⟨iv, hiv⟩ := Option.isSome_iff_exists.mp h
    obtain ⟨hv, hp⟩ := Option.filter_eq_some_iff.mp hiv
    exact closeValves_closed (by rw [same, hv]) hp
  · intro h
    refine (closeValves_kept fun iv hv => ?_).trans same
    rw [same] at hv
    rw [hv] at h
    simpa [Option.filter] using h

theorem fluxOutcome_alarms {out : FluxOutcome} : out.alarms = true ↔ out = .low ∨ out = .high ∨ out = .uncertain := by
  cases out <;> simp [FluxOutcome.alarms]

/-- What of the state the outcome's latch leaves. -/
theorem sprayJudged_beside (s : State) (b : BoardRecord) (out : FluxOutcome) (volume : Nat) :
    (sprayJudged s b out volume).trk = (sprayWritten s b out volume).trk ∧
      (sprayJudged s b out volume).flx = (sprayWritten s b out volume).flx := by
  unfold sprayJudged; split <;> exact ⟨rfl, rfl⟩

theorem sprayJudged_board {s : State} {b : BoardRecord} {x : Board} (queued : findBoard s b.pIn = some x)
    (out : FluxOutcome) (volume : Nat) : findBoard (sprayJudged s b out volume) b.pIn =
      some { x with data := { x.data with flux := some ⟨out, volume⟩ } } := by
  have written : findBoard (sprayWritten s b out volume) b.pIn =
      some { x with data := { x.data with flux := some ⟨out, volume⟩ } } :=
    findBoard_updBoard (fun _ => rfl) queued
  unfold findBoard at *
  rw [(sprayJudged_beside s b out volume).1]; exact written

theorem sprayJudged_accounts (s : State) (b : BoardRecord) (out : FluxOutcome) (volume : Nat) :
    (sprayJudged s b out volume).flx.accounts = s.flx.accounts.filter fun a => a.board ≠ b.pIn := by
  rw [(sprayJudged_beside s b out volume).2]; rfl

theorem getNozzle_sprayJudged (s : State) (b : BoardRecord) (out : FluxOutcome) (volume : Nat) (n : NozzleId) :
    getNozzle (sprayJudged s b out volume) n = getNozzle s n :=
  getNozzle_of_nozzles (by rw [(sprayJudged_beside s b out volume).2]; rfl) n

theorem sprayJudged_alarm {s : State} {b : BoardRecord} {out : FluxOutcome} {volume : Nat}
    (h : out.alarms = true) : (sprayJudged s b out volume).ilu.slots[slotFluxTol].latched = true ∧
      (sprayJudged s b out volume).ilu.slots[slotFluxTol].detail = b.tag := by
  unfold sprayJudged
  rw [if_pos h, Fin.getElem_fin, latchSlot_same]
  exact ⟨rfl, rfl⟩

theorem sprayJudged_quiet {s : State} {b : BoardRecord} {out : FluxOutcome} {volume : Nat}
    (h : ¬ out.alarms = true) : (sprayJudged s b out volume).ilu = s.ilu := by
  unfold sprayJudged
  rw [if_neg h]; rfl

end Sys2Proof.SelectiveFluxing
end

section
/-! SUPPORT. The bar after every event (R51, R52): a valve that no test holds is open exactly while its nozzle
is wanted, for the covering board. -/

namespace Sys2Proof.SelectiveFluxing

open Sys2Proof.Machine Sys2Proof.Safety

/-! ### The current mask (R51) -/

/-- The disposition of the account of a board, if it has one. -/
def dispositionAt (s : State) (p : Pos) : Option Disposition := (accountOf s p).map Account.disposition

/-- Nozzle n is named in the current mask (R51). -/
def Named (s : State) (n : NozzleId) : Prop :=
  ∃ g b r i m, activeGeometry s = some g ∧ coveringBoard s = some b ∧ s.ilu.standing < 3 ∧
    dispositionAt s b.data.pIn = some .toSpray ∧ boardRecipe s b.data = some r ∧ r.fluxMap = some i ∧
    activeMap s i = some m ∧ (leading s b.data - evalPoint g).toNat / m.segLen < m.segCount ∧
    (m.masks.getD ((leading s b.data - evalPoint g).toNat / m.segLen) 0).getLsbD n.val = true

theorem currentMask_bit {s : State} {n : NozzleId} : (currentMask s).getLsbD n.val = true ↔ Named s n := by
  unfold currentMask Named dispositionAt
  cases hg : activeGeometry s with
  | none => simp
  | some g =>
    cases hb : coveringBoard s with
    | none => simp
    | some b =>
      cases ha : accountOf s b.data.pIn with
      | none => simp [ha]
      | some a =>
        cases hr : boardRecipe s b.data with
        | none => simp [ha, hr]
        | some r =>
          cases hi : r.fluxMap with
          | none => simp [ha, hr, hi]
          | some i =>
            cases hm : activeMap s i with
            | none => simp [ha, hr, hi, hm]
            | some m =>
              simp only [ha, hr, hi, hm, Option.bind_some, Option.some.injEq]
              constructor
              · intro bit
                split at bit
                · next c => exact ⟨g, b, r, i, m, rfl, rfl, c.2.2, by simp [ha, c.1], hr, hi, hm, c.2.1, bit⟩
                · simp at bit
              · rintro ⟨_, _, r', i', m', rfl, rfl, high, disp, er, ei, em, seg, bit⟩
                rw [hr] at er; cases er
                rw [hi] at ei; cases ei
                rw [hm] at em; cases em
                rw [if_pos ⟨by simpa [ha] using disp, seg, high⟩]; exact bit

/-- A nozzle is wanted (R52): named in the mask, not faulted and enabled. -/
theorem wanted_iff {s : State} {n : NozzleId} : wanted s n = true ↔ Named s n ∧
    (getNozzle s n).faulted = false ∧ ∃ e, (getNozzle s n).inForce = some e ∧ e.enabled = true := by
  unfold wanted
  rw [Bool.and_eq_true, Bool.and_eq_true, currentMask_bit, Bool.not_eq_true', and_assoc]
  cases (getNozzle s n).inForce <;> simp

/-- The states agree on all that the current mask reads. -/
structure SameMask (s t : State) : Prop where
  trk : t.trk = s.trk
  tbs : t.tbs = s.tbs
  standing : t.ilu.standing = s.ilu.standing
  accounts : ∀ p, dispositionAt t p = dispositionAt s p

theorem SameMask.refl (s : State) : SameMask s s := ⟨rfl, rfl, rfl, fun _ => rfl⟩

theorem SameMask.symm {s t : State} (h : SameMask s t) : SameMask t s :=
  ⟨h.trk.symm, h.tbs.symm, h.standing.symm, fun p => (h.accounts p).symm⟩

theorem SameMask.trans {s t u : State} (h : SameMask s t) (k : SameMask t u) : SameMask s u :=
  ⟨k.trk.trans h.trk, k.tbs.trans h.tbs, k.standing.trans h.standing,
    fun p => (k.accounts p).trans (h.accounts p)⟩

theorem dispositionAt_of_accounts {s t : State} (h : t.flx.accounts = s.flx.accounts) (p : Pos) :
    dispositionAt t p = dispositionAt s p := by
  unfold dispositionAt accountOf; rw [h]

theorem FlxOnly.sameMask {s t : State} (h : FlxOnly s t) (accounts : ∀ p, dispositionAt t p = dispositionAt s p) :
    SameMask s t := ⟨h.trk, h.tbs, by rw [h.ilu], accounts⟩

theorem SameMask.covering {s t : State} (h : SameMask s t) : coveringBoard t = coveringBoard s := by
  have one (g : Geometry) : covers t g = covers s g := by
    funext b; unfold covers leading trailing leading; rw [h.trk]
  unfold coveringBoard activeGeometry
  rw [h.tbs, h.trk]
  simp only [one]

theorem SameMask.named {s t : State} (h : SameMask s t) (n : NozzleId) : Named t n ↔ Named s n := by
  unfold Named activeGeometry boardRecipe activeRecipe activeMap leading
  simp only [h.covering, h.tbs, h.trk, h.standing, h.accounts]

theorem SameMask.wanted {s t : State} {n : NozzleId} (h : SameMask s t)
    (faulted : (getNozzle t n).faulted = (getNozzle s n).faulted)
    (inForce : (getNozzle t n).inForce = (getNozzle s n).inForce) : wanted t n = wanted s n := by
  rw [Bool.eq_iff_iff, wanted_iff, wanted_iff, h.named, faulted, inForce]

theorem closeValve_sameMask (s : State) (n : NozzleId) : SameMask s (closeValve s n) := by
  refine (closeValve_flxOnly s n).sameMask fun p => ?_
  cases hv : (getNozzle s n).valve with
  | none => rw [closeValve_of_closed hv]
  | some iv =>
    unfold dispositionAt
    rw [accountOf_map (credit_board s.now iv) (closeValve_accounts hv), Option.map_map]
    congr 1
    funext a
    exact credit_disposition s.now iv a

theorem openValve_sameMask (s : State) (n : NozzleId) (o : ValveOwner) : SameMask s (openValve s n o) :=
  (openValve_flxOnly s n o).sameMask fun _ => rfl

theorem shutUnwanted_sameMask (s : State) (n : NozzleId) : SameMask s (shutUnwanted s n) := by
  unfold shutUnwanted; split
  · split
    · exact SameMask.refl s
    · exact closeValve_sameMask s n
  · exact SameMask.refl s

theorem reevaluateNozzle_sameMask (s : State) (n : NozzleId) : SameMask s (reevaluateNozzle s n) := by
  refine (shutUnwanted_sameMask s n).trans ?_
  unfold reevaluateNozzle openWanted; split
  · split
    · exact openValve_sameMask _ n _
    · exact SameMask.refl _
  · exact SameMask.refl _

theorem getNozzle_reevaluate_other {s : State} {n m : NozzleId} (h : n ≠ m) :
    getNozzle (reevaluateNozzle s n) m = getNozzle s m := by
  have shut : getNozzle (shutUnwanted s n) m = getNozzle s m := by
    unfold shutUnwanted; split
    · split
      · rfl
      · exact getNozzle_closeValve h
    · rfl
  unfold reevaluateNozzle openWanted; split
  · split
    · rw [getNozzle_openValve _ h, shut]
    · exact shut
  · exact shut

/-! ### A nozzle re-evaluated (R52) -/

/-- Nozzle n stands as a re-evaluation leaves it: an open valve is a test's, or the nozzle is wanted and the
valve open for the covering board; and a nozzle with a closed valve is not wanted. -/
def Reevaluated (s : State) (n : NozzleId) : Prop :=
  (∀ iv, (getNozzle s n).valve = some iv → iv.owner = .test ∨
    (wanted s n = true ∧ ∃ b, coveringBoard s = some b ∧ iv.owner = .board b.data.pIn)) ∧
  ((getNozzle s n).valve = none → wanted s n = false)

theorem reevaluated_congr {s t : State} {n : NozzleId} (same : SameMask s t)
    (faulted : (getNozzle t n).faulted = (getNozzle s n).faulted)
    (inForce : (getNozzle t n).inForce = (getNozzle s n).inForce)
    (owner : (getNozzle t n).valve.map Interval.owner = (getNozzle s n).valve.map Interval.owner)
    (h : Reevaluated s n) : Reevaluated t n := by
  unfold Reevaluated at *
  rw [same.wanted faulted inForce, same.covering]
  refine ⟨fun iv hv => ?_, fun hv => h.2 ?_⟩
  · rw [hv, Option.map_some] at owner
    obtain ⟨x, hx, e⟩ := Option.map_eq_some_iff.mp owner.symm
    rw [← e]; exact h.1 x hx
  · rw [hv] at owner; exact Option.map_eq_none_iff.mp owner.symm

/-- A closed valve stays closed where its nozzle is not wanted, and opens for the covering board where it is. -/
theorem openWanted_unwanted {s : State} {n : NozzleId} (h : wanted s n = false) : openWanted s n = s := by
  unfold openWanted
  rw [h]
  cases (getNozzle s n).valve with
  | none => cases coveringBoard s <;> rfl
  | some iv => rfl

theorem openWanted_opens {s : State} {n : NozzleId} {b : Board} (closed : (getNozzle s n).valve = none)
    (hb : coveringBoard s = some b) (h : wanted s n = true) :
    openWanted s n = openValve s n (.board b.data.pIn) := by
  unfold openWanted
  rw [closed, hb, h]
  rfl

theorem openWanted_reevaluated {s : State} {n : NozzleId} (closed : (getNozzle s n).valve = none) :
    Reevaluated (openWanted s n) n := by
  cases hw : wanted s n with
  | false =>
    rw [openWanted_unwanted hw]
    exact And.intro (fun iv hv => by rw [closed] at hv; cases hv) fun _ => hw
  | true =>
    obtain ⟨⟨b, hb⟩, -⟩ := wanted_covered hw
    rw [openWanted_opens closed hb hw]
    have nozzle := getNozzle_openValve_same s n (.board b.data.pIn)
    have same := openValve_sameMask s n (.board b.data.pIn)
    refine And.intro (fun iv hv => .inr ⟨?_, b, ?_, ?_⟩) fun hv => ?_
    · rw [same.wanted (by rw [nozzle]) (by rw [nozzle]), hw]
    · rw [same.covering, hb]
    · rw [nozzle] at hv; cases hv; rfl
    · rw [nozzle] at hv; cases hv

/-- A valve that stays open is a test's, or its nozzle is wanted for the covering board. -/
theorem keepsOpen_iff {s : State} {n : NozzleId} {iv : Machine.Interval} : keepsOpen s n iv = true ↔
    iv.owner = .test ∨
      (wanted s n = true ∧ ∃ b, coveringBoard s = some b ∧ iv.owner = .board b.data.pIn) := by
  unfold keepsOpen
  cases iv.owner with
  | test => simp
  | board p =>
    cases coveringBoard s with
    | none => simp
    | some b => simp [eq_comm (a := p)]

theorem shutUnwanted_closed {s : State} {n : NozzleId} (h : (getNozzle s n).valve = none) :
    shutUnwanted s n = s := by
  unfold shutUnwanted; rw [h]

theorem shutUnwanted_open {s : State} {n : NozzleId} {iv : Machine.Interval}
    (h : (getNozzle s n).valve = some iv) :
    shutUnwanted s n = if keepsOpen s n iv then s else closeValve s n := by
  unfold shutUnwanted; rw [h]

theorem openWanted_open {s : State} {n : NozzleId} {iv : Machine.Interval}
    (h : (getNozzle s n).valve = some iv) : openWanted s n = s := by
  unfold openWanted; rw [h]

theorem reevaluateNozzle_reevaluated (s : State) (n : NozzleId) : Reevaluated (reevaluateNozzle s n) n := by
  unfold reevaluateNozzle
  cases hv : (getNozzle s n).valve with
  | none => rw [shutUnwanted_closed hv]; exact openWanted_reevaluated hv
  | some iv =>
    rw [shutUnwanted_open hv]
    cases hk : keepsOpen s n iv with
    | false =>
      rw [if_neg Bool.false_ne_true]
      exact openWanted_reevaluated (closeValve_valve s n)
    | true =>
      rw [if_pos rfl, openWanted_open hv]
      refine And.intro (fun x hx => ?_) fun h => by rw [hv] at h; cases h
      rw [hv] at hx; cases hx
      exact keepsOpen_iff.mp hk

theorem reevaluateValves_sameMask (s : State) : SameMask s (reevaluateValves s) :=
  foldl_preserves (SameMask s) _ (fun u n h => h.trans (reevaluateNozzle_sameMask u n)) _ s (SameMask.refl s)

theorem reevaluateValves_reevaluated (s : State) (n : NozzleId) : Reevaluated (reevaluateValves s) n := by
  obtain ⟨u, same, -, e⟩ := foldl_own (fun u => getNozzle u n) (SameMask s) reevaluateNozzle n
    (fun u m hm => getNozzle_reevaluate_other hm) (fun u m h => h.trans (reevaluateNozzle_sameMask u m))
    nodup_allNozzles (mem_allNozzles n) (SameMask.refl s)
  have e : getNozzle (reevaluateValves s) n = getNozzle (reevaluateNozzle u n) n := e
  have together := ((same.trans (reevaluateNozzle_sameMask u n)).symm).trans (reevaluateValves_sameMask s)
  exact reevaluated_congr together (by rw [e]) (by rw [e]) (by rw [e]) (reevaluateNozzle_reevaluated u n)

/-! ### The bar after settle -/

theorem markDoubt_nozzle (s : State) (n : NozzleId) :
    (getNozzle (markDoubt s) n).faulted = (getNozzle s n).faulted ∧
      (getNozzle (markDoubt s) n).inForce = (getNozzle s n).inForce := by
  rw [getNozzle_markDoubt]; split <;> exact ⟨rfl, rfl⟩

theorem expireDwell_beside (s : State) : (expireDwell s).flx.nozzles = s.flx.nozzles ∧
    (expireDwell s).flx.accounts = s.flx.accounts := by
  unfold expireDwell; split <;> exact ⟨rfl, rfl⟩

theorem markDoubt_reevaluated {s : State} {n : NozzleId} (h : Reevaluated s n) : Reevaluated (markDoubt s) n :=
  reevaluated_congr ((markDoubt_flxOnly s).sameMask fun p => dispositionAt_of_accounts (markDoubt_beside s).1 p)
    (markDoubt_nozzle s n).1 (markDoubt_nozzle s n).2 (markDoubt_owner s n) h

theorem expireDwell_reevaluated {s : State} {n : NozzleId} (h : Reevaluated s n) : Reevaluated (expireDwell s) n := by
  obtain ⟨nozzles, accounts⟩ := expireDwell_beside s
  have nozzle := getNozzle_of_nozzles nozzles n
  exact reevaluated_congr ((expireDwell_flxOnly s).sameMask fun p => dispositionAt_of_accounts accounts p)
    (by rw [nozzle]) (by rw [nozzle]) (by rw [nozzle]) h

theorem judgeFluxing_reevaluated {s : State} {n : NozzleId} (h : Reevaluated s n) :
    Reevaluated (judgeFluxing s) n := by
  have nozzle : getNozzle (judgeFluxing s) n = getNozzle s n := getNozzle_of_nozzles rfl n
  exact reevaluated_congr ((judgeFluxing_flxOnly s).sameMask fun p => dispositionAt_of_accounts rfl p)
    (by rw [nozzle]) (by rw [nozzle]) (by rw [nozzle]) h

theorem judgePressure_reevaluated {s : State} {n : NozzleId} (h : Reevaluated s n) :
    Reevaluated (judgePressure s) n := by
  have flx := judgePressure_flx s
  have nozzle := getNozzle_of_flx flx n
  have same : SameMask s (judgePressure s) :=
    { trk := core_trk (judgePressure_core s)
      tbs := core_tbs (judgePressure_core s)
      standing := judgePressure_standing s
      accounts := dispositionAt_of_accounts (by rw [flx]) }
  exact reevaluated_congr same (by rw [nozzle]) (by rw [nozzle]) (by rw [nozzle]) h

/-- What follows the re-evaluation in a judgement of the bar leaves every nozzle re-evaluated. -/
theorem judgeFlux_reevaluated (s : State) (n : NozzleId) : Reevaluated (judgeFlux s) n := by
  unfold judgeFlux
  exact judgePressure_reevaluated (judgeFluxing_reevaluated (expireDwell_reevaluated
    (markDoubt_reevaluated (reevaluateValves_reevaluated s n))))

/-- After `settle` every nozzle stands as a re-evaluation leaves it. -/
theorem settle_reevaluated (s : State) (n : NozzleId) : Reevaluated (settle s) n := by
  obtain ⟨u, core, e⟩ := settle_ends (roundClosed_core s) rfl
  have bar : Reevaluated (beforeExtraction u) n := judgeFlux_reevaluated _ n
  have settled : (settle s).core = (beforeExtraction u).core :=
    (settle_core s).trans ((beforeExtraction_core u).trans core).symm
  have flx : (settle s).flx = (beforeExtraction u).flx := by
    rw [e, (outputs_beside _).1, judgeRound_flx]
  have nozzle := getNozzle_of_flx flx n
  have same : SameMask (beforeExtraction u) (settle s) :=
    { trk := core_trk settled
      tbs := core_tbs settled
      standing := by rw [e, (outputs_beside _).2.2.2.2, judgeRound_eq, judgeExtraction_standing]
      accounts := dispositionAt_of_accounts (by rw [flx]) }
  exact reevaluated_congr same (by rw [nozzle]) (by rw [nozzle]) (by rw [nozzle]) bar

/-! ### In the words of the statement -/

theorem covers_iff {s : State} {g : Geometry} {b : Board} :
    Covers s g b ↔ b ∈ s.trk.queue ∧ covers s g b = true := by
  unfold Covers covers
  rw [Bool.and_eq_true, Bool.and_eq_true, Bool.or_eq_true, isOpen_spray, decide_eq_true_iff, decide_eq_true_iff,
    Option.isNone_iff_eq_none, and_assoc]
  rfl

theorem coveringBoard_of_unique {s : State} {g : Geometry} {b : Board} (hg : activeGeometry s = some g)
    (hb : Covers s g b) (only : ∀ c, Covers s g c → c = b) : coveringBoard s = some b := by
  obtain ⟨mem, cov⟩ := covers_iff.mp hb
  unfold coveringBoard
  rw [hg]
  simp only
  cases hf : s.trk.queue.find? (covers s g) with
  | none => exact absurd cov (by simpa using List.find?_eq_none.mp hf b mem)
  | some c => rw [only c (covers_iff.mpr ⟨List.mem_of_find?_eq_some hf, List.find?_some hf⟩)]

theorem coveringBoard_of_none {s : State} {g : Geometry} (hg : activeGeometry s = some g)
    (none_covers : ∀ b, ¬ Covers s g b) : coveringBoard s = none := by
  unfold coveringBoard
  rw [hg]
  exact List.find?_eq_none.mpr fun b mem cov => none_covers b (covers_iff.mpr ⟨mem, cov⟩)

theorem wanted_iff_wantedFor {s : State} {g : Geometry} {b : Board} (hg : activeGeometry s = some g)
    (hb : coveringBoard s = some b) (n : NozzleId) : wanted s n = true ↔ WantedFor s g b n := by
  rw [wanted_iff]
  unfold Named WantedFor dispositionAt
  constructor
  · rintro ⟨⟨g', b', r, i, m, eg, eb, high, disp, hr, hi, hm, seg, bit⟩, faulted, enabled⟩
    rw [hg] at eg; cases eg
    rw [hb] at eb; cases eb
    obtain ⟨a, ha, toSpray⟩ := Option.map_eq_some_iff.mp disp
    exact ⟨high, faulted, enabled, a, r, i, m, ha, toSpray, hr, hi, hm, seg, bit⟩
  · rintro ⟨high, faulted, enabled, a, r, i, m, ha, toSpray, hr, hi, hm, seg, bit⟩
    exact ⟨⟨g, b, r, i, m, hg, hb, high, by rw [ha, Option.map_some, toSpray], hr, hi, hm, seg, bit⟩,
      faulted, enabled⟩

theorem settle_covered {s : State} {g : Geometry} {b : Board} (hg : activeGeometry s = some g)
    (hb : Covers (settle s) g b) (only : ∀ c, Covers (settle s) g c → c = b) (n : NozzleId)
    (free : ∀ iv, (getNozzle (settle s) n).valve = some iv → iv.owner ≠ .test) :
    ((getNozzle (settle s) n).valve ≠ none ↔ WantedFor (settle s) g b n) ∧
      ∀ iv, (getNozzle (settle s) n).valve = some iv → iv.owner = .board b.data.pIn := by
  have geometry : activeGeometry (settle s) = some g := by
    unfold activeGeometry at *; rw [settle_tbs]; exact hg
  have covering := coveringBoard_of_unique geometry hb only
  obtain ⟨opened, closed⟩ := settle_reevaluated s n
  have own {iv : Machine.Interval} (hv : (getNozzle (settle s) n).valve = some iv) :
      wanted (settle s) n = true ∧ iv.owner = .board b.data.pIn := by
    rcases opened iv hv with test | ⟨want, c, hc, owner⟩
    · exact absurd test (free iv hv)
    · rw [covering] at hc; cases hc; exact ⟨want, owner⟩
  refine ⟨?_, fun iv hv => (own hv).2⟩
  rw [← wanted_iff_wantedFor geometry covering]
  constructor
  · intro h
    obtain ⟨iv, hv⟩ := Option.ne_none_iff_exists'.mp h
    exact (own hv).1
  · intro want none_open
    rw [closed none_open] at want; cases want

theorem settle_uncovered {s : State} {g : Geometry} (hg : activeGeometry s = some g)
    (none_covers : ∀ b, ¬ Covers (settle s) g b) (n : NozzleId) (iv : Machine.Interval)
    (hv : (getNozzle (settle s) n).valve = some iv) : iv.owner = .test := by
  have geometry : activeGeometry (settle s) = some g := by
    unfold activeGeometry at *; rw [settle_tbs]; exact hg
  rcases (settle_reevaluated s n).1 iv hv with test | ⟨-, b, hb, -⟩
  · exact test
  · rw [coveringBoard_of_none geometry none_covers] at hb; cases hb

end Sys2Proof.SelectiveFluxing
end

section
/-! SUPPORT. Spray accounts: the pressure-doubt mark that an event sets stays with its interval (R54), and the
statement O21. -/

namespace Sys2Proof.SelectiveFluxing

open Sys2Proof.Machine Sys2Proof.Safety

/-! ### The doubt of an interval (R54) -/

/-- The pressure is doubtful, the interval on nozzle n is in doubt, and an owner's interval that has closed has
left its doubt in the account. -/
def DoubtPaid (o : ValveOwner) (n : NozzleId) (u : State) : Prop :=
  pressureDoubtful u = true ∧ (∀ x, (getNozzle u n).valve = some x → x.doubt = true) ∧
    ((∃ x, (getNozzle u n).valve = some x ∧ x.owner = o) ∨
      ∀ a ∈ u.flx.accounts, o = .board a.board → a.uncertain = true)

theorem pressureDoubtful_of_core {s t : State} (h : t.core = s.core) :
    pressureDoubtful t = pressureDoubtful s := by
  unfold pressureDoubtful signal minPressure; rw [core_lnk h, core_tbs h]

theorem doubtPaid_of_bar {o : ValveOwner} {n : NozzleId} {s t : State} (core : t.core = s.core)
    (nozzles : t.flx.nozzles = s.flx.nozzles) (accounts : t.flx.accounts = s.flx.accounts)
    (h : DoubtPaid o n s) : DoubtPaid o n t := by
  unfold DoubtPaid at *
  rwa [pressureDoubtful_of_core core, getNozzle_of_nozzles nozzles, accounts]

/-- A credited account keeps its doubt, and takes that of its own interval. -/
theorem credit_uncertain {now : Time} {iv : Machine.Interval} {a : Account}
    (h : a.uncertain = true ∨ (iv.owner = .board a.board ∧ iv.doubt = true)) :
    (Account.credit now iv a).uncertain = true := by
  unfold Account.credit
  split
  · rcases h with h | ⟨-, h⟩ <;> simp [h]
  · next ne =>
    rcases h with h | ⟨own, -⟩
    · exact h
    · exact absurd own ne

theorem doubtPaid_close {o : ValveOwner} {n : NozzleId} {u : State} (m : NozzleId) (h : DoubtPaid o n u) :
    DoubtPaid o n (closeValve u m) := by
  obtain ⟨pressure, doubt, left⟩ := h
  cases hv : (getNozzle u m).valve with
  | none => rw [closeValve_of_closed hv]; exact ⟨pressure, doubt, left⟩
  | some iv =>
    refine ⟨(pressureDoubtful_of_core (closeValve_core u m)).trans pressure, fun x hx => ?_, ?_⟩
    · by_cases e : m = n
      · rw [e, closeValve_valve] at hx; cases hx
      · rw [getNozzle_closeValve e] at hx; exact doubt x hx
    · have marked (paidBy : ∀ a ∈ u.flx.accounts, o = .board a.board →
          a.uncertain = true ∨ (iv.owner = .board a.board ∧ iv.doubt = true)) :
          ∀ a ∈ (closeValve u m).flx.accounts, o = .board a.board → a.uncertain = true := by
        rw [closeValve_accounts hv]
        intro a ha own
        obtain ⟨c, hc, rfl⟩ := List.mem_map.mp ha
        rw [credit_board] at own
        exact credit_uncertain (paidBy c hc own)
      rcases left with ⟨x, hx, own⟩ | left
      · by_cases e : m = n
        · rw [e, hx] at hv; cases hv
          exact .inr (marked fun a _ ho => .inr ⟨own.trans ho, doubt iv hx⟩)
        · exact .inl ⟨x, by rw [getNozzle_closeValve e]; exact hx, own⟩
      · exact .inr (marked fun a ha ho => .inl (left a ha ho))

theorem doubtPaid_fluxLaw (o : ValveOwner) (n : NozzleId) : FluxLaw (DoubtPaid o n) where
  beside := fun core flx _ h => doubtPaid_of_bar core (by rw [flx]) (by rw [flx]) h
  close := fun {u m iv} _ _ h => doubtPaid_close m h
  opens := fun {u m p} closed _ ⟨pressure, doubt, left⟩ => by
    refine ⟨(pressureDoubtful_of_core (openValve_core u m _)).trans pressure, fun x hx => ?_, ?_⟩
    · by_cases e : m = n
      · rw [e, getNozzle_openValve_same] at hx; cases hx; exact pressure
      · rw [getNozzle_openValve _ e] at hx; exact doubt x hx
    · rcases left with ⟨x, hx, own⟩ | left
      · have ne : m ≠ n := fun e => by rw [e, hx] at closed; cases closed
        exact .inl ⟨x, by rw [getNozzle_openValve _ ne]; exact hx, own⟩
      · exact .inr left
  ends := fun {u} _ h => by
    rcases endTest_bar u .inhibit with ⟨nozzles, accounts, -⟩ | ⟨m, nozzles, accounts, -⟩
    · exact doubtPaid_of_bar (endTest_core u _) nozzles accounts h
    · exact doubtPaid_of_bar ((endTest_core u _).trans (closeValve_core u m).symm) nozzles accounts
        (doubtPaid_close m h)
  cut := fun {u} ⟨pressure, doubt, left⟩ => by
    refine ⟨pressure, doubt, left.imp_right fun left a ha own => ?_⟩
    obtain ⟨c, hc, rfl⟩ := List.mem_map.mp ha
    rw [if_pos rfl] at own ⊢
    obtain ⟨board, -, uncertain⟩ := cutIf_beside true c
    exact uncertain.trans (left c hc (own.trans (by rw [← board]; rfl)))
  doubt := fun {u} ⟨pressure, doubt, left⟩ => by
    refine ⟨(pressureDoubtful_of_core (markDoubt_core u)).trans pressure, fun x hx => ?_, ?_⟩
    · rw [getNozzle_markDoubt, if_pos pressure] at hx
      obtain ⟨y, -, rfl⟩ := Option.map_eq_some_iff.mp hx
      rfl
    · rw [(markDoubt_beside u).1]
      refine left.imp_left fun ⟨x, hx, own⟩ => ?_
      have k := markDoubt_owner u n
      rw [hx, Option.map_some] at k
      obtain ⟨y, hy, e⟩ := Option.map_eq_some_iff.mp k
      exact ⟨y, hy, e.trans own⟩
  dwell := fun h => h
  fluxing := fun h => h

/-- A test on nozzle n runs with an interval in doubt, or has ended with its record in doubt. -/
def DoubtRecorded (n : NozzleId) (d : Nat) (u : State) : Prop :=
  (u.flx.test = some ⟨n, d⟩ ∧ ∃ x, (getNozzle u n).valve = some x ∧ x.owner = .test ∧ x.doubt = true) ∨
    (u.flx.test = none ∧ ∃ r, u.flx.lastTest = some r ∧ r.nozzle = n ∧ r.doubt = true)

theorem doubtRecorded_fluxLaw (n : NozzleId) (d : Nat) : FluxLaw (DoubtRecorded n d) where
  beside := fun _ flx _ h => by
    unfold DoubtRecorded at *
    rwa [getNozzle_of_flx flx, flx]
  close := fun {u m iv} hv free h => by
    unfold DoubtRecorded at *
    rw [closeValve_test, closeValve_lastTest]
    refine h.imp_left fun ⟨test, x, hx, own, doubt⟩ => ⟨test, x, ?_, own, doubt⟩
    have ne : m ≠ n := fun e => by
      rw [e, hx] at hv; cases hv
      rcases free with board | idle
      · exact board own
      · rw [idle] at test; cases test
    rw [getNozzle_closeValve ne]; exact hx
  opens := fun {u m p} closed _ h => h.imp_left fun ⟨test, x, hx, rest⟩ => by
    have ne : m ≠ n := fun e => by rw [e, hx] at closed; cases closed
    exact ⟨test, x, by rw [getNozzle_openValve _ ne]; exact hx, rest⟩
  ends := fun {u} _ h => by
    rcases h with ⟨test, x, hx, own, doubt⟩ | ⟨idle, last⟩
    · rw [endTest_of_open test hx]
      exact .inr ⟨rfl, testRecord u.now ⟨n, d⟩ x .inhibit, rfl, rfl, doubt⟩
    · rw [endTest_of_idle idle]; exact .inr ⟨idle, last⟩
  cut := fun h => h
  doubt := fun {u} h => by
    obtain ⟨-, test, last, -⟩ := markDoubt_beside u
    unfold DoubtRecorded at *
    rw [test, last]
    refine h.imp_left fun ⟨running, x, hx, own, doubt⟩ => ⟨running, ?_⟩
    rw [getNozzle_markDoubt]; split
    · exact ⟨{ x with doubt := true }, by rw [hx]; rfl, own, rfl⟩
    · exact ⟨x, hx, own, doubt⟩
  dwell := fun h => h
  fluxing := fun h => h

/-- An interval open while the pressure becomes doubtful is in doubt, and what it left at its close in the same
event with it (R54). -/
theorem settle_doubted {s w : State} {n : NozzleId} {iv : Machine.Interval} (flx : w.flx = s.flx)
    (pressure : pressureDoubtful w = true) (hv : (getNozzle s n).valve = some iv) :
    let t := settle (markDoubt w)
    (∀ x, (getNozzle t n).valve = some x → x.doubt = true) ∧
      ((getNozzle t n).valve = none → ∀ a ∈ t.flx.accounts, iv.owner = .board a.board → a.uncertain = true) ∧
      (TestLaw s → ∀ d, s.flx.test = some ⟨n, d⟩ → t.flx.test = none →
        ∃ r, t.flx.lastTest = some r ∧ r.nozzle = n ∧ r.doubt = true) := by
  have marked : (getNozzle (markDoubt w) n).valve = some { iv with doubt := true } := by
    rw [getNozzle_markDoubt, if_pos pressure, getNozzle_of_flx flx, hv]; rfl
  have start : DoubtPaid iv.owner n (markDoubt w) := by
    refine ⟨(pressureDoubtful_of_core (markDoubt_core w)).trans pressure, fun x hx => ?_, .inl ⟨_, marked, rfl⟩⟩
    rw [marked] at hx; cases hx; rfl
  obtain ⟨-, doubt, left⟩ : DoubtPaid iv.owner n (settle (markDoubt w)) :=
    (doubtPaid_fluxLaw iv.owner n).settle start
  refine ⟨doubt, fun closed a ha own => ?_, fun law d test idle => ?_⟩
  · rcases left with ⟨x, hx, -⟩ | left
    · rw [closed] at hx; cases hx
    · exact left a ha own
  · obtain ⟨x, hx, owner⟩ := law n d test
    have hx : (getNozzle s n).valve = some x := hx
    rw [hv] at hx; cases hx
    have running : (markDoubt w).flx.test = some ⟨n, d⟩ := by rw [(markDoubt_beside w).2.1, flx, test]
    have recorded : DoubtRecorded n d (settle (markDoubt w)) :=
      (doubtRecorded_fluxLaw n d).settle (.inl ⟨running, _, marked, owner, rfl⟩)
    rcases recorded with ⟨still, -⟩ | ⟨-, last⟩
    · rw [idle] at still; cases still
    · exact last

theorem pressureDoubtful_held {s : State} (h : (signal s sigFlux).state = .held) :
    pressureDoubtful s = true := by
  unfold pressureDoubtful; simp only [h]

theorem pressureDoubtful_below {s : State} {v : Int} {h : NozzleHeader} (state : (signal s sigFlux).state = .valid)
    (value : (signal s sigFlux).value = some v) (header : s.tbs.nozzle.active.header = some h)
    (below : v < h.minPress) : pressureDoubtful s = true := by
  unfold pressureDoubtful minPressure
  simp only [state, value, header, Option.map_some]
  exact decide_eq_true below

/-- The mark at an opening with entries in force. -/
theorem pressureDoubtful_iff {s : State} {h : NozzleHeader} (header : s.tbs.nozzle.active.header = some h) :
    pressureDoubtful s = true ↔ ¬ ((signal s sigFlux).state = .valid ∧
      ∃ v, (signal s sigFlux).value = some v ∧ h.minPress ≤ v) := by
  unfold pressureDoubtful minPressure
  rw [header, Option.map_some]
  dsimp only
  generalize (signal s sigFlux).state = state
  generalize (signal s sigFlux).value = value
  cases value with
  | none => cases state <;> simp
  | some v => cases state <;> simp

theorem exec_holdTime {s : State} (run : Running s) (i : SignalId) :
    exec (.holdTimeExpiry i) s = .next (ifDue (holdDue s i) s (becomeHeld s i)) :=
  unlessHeld_running run fun s => ifDue (holdDue s i) s (becomeHeld s i)

theorem holdDue_of {s : State} {i : SignalId} {t0 : Time} {m : MapEntry} {hold : Nat}
    (state : (signal s i).state = .valid) (fresh : (signal s i).fresh = some t0) (entry : mapOf s i.val = some m)
    (hasHold : m.hold = some hold) (due : hold ≤ elapsed s.now t0) : holdDue s i = true := by
  unfold holdDue holdOfSignal
  simp only [state, fresh, entry, Option.bind_some, hasHold]
  exact decide_eq_true due

/-- The state a signal is HELD in, before the marks and `settle`. -/
def heldAt (s : State) (i : SignalId) : State := judgeInputHeld (updSignal s i fun g => { g with state := .held }) i

theorem heldAt_signal (s : State) (i : SignalId) : (signal (heldAt s i) i).state = .held := by
  have k : (signal (heldAt s i) i) = signal (updSignal s i fun g => { g with state := .held }) i := by
    unfold heldAt judgeInputHeld signal; rw [judgeSlot_lnk]
  rw [k, signal_updSignal]

theorem heldAt_flx (s : State) (i : SignalId) : (heldAt s i).flx = s.flx := judgeSlot_flx _ _ _ _

/-- A signal with a sample just taken (R170). -/
def sampleSignal (s : State) (i : SignalId) (v : Int) (seq : Nat) (p : Byte) : State :=
  updSignal s i fun g => { g with
    state := .valid, value := some v, fresh := some s.now, lastSeq := some seq, producer := some p }

/-- The state a sample's owner reads (R172, R173, R192). -/
def sampledAt (s : State) (i : SignalId) (v : Int) (seq : Nat) (p : Byte) : State :=
  leaveAwaited (judgeInputHeld (sampleSignal s i v seq p) i) i

theorem freshSample_eq (s : State) (i : SignalId) (v : Int) (seq : Nat) (p : Byte) :
    freshSample s i v seq p = settle (markDoubt (ownerSample (sampledAt s i v seq p) i v)) := rfl

theorem judgeSlot_iluOnly (s : State) (k : SlotId) (c : Bool) (d : Int) :
    judgeSlot s k c d = { s with ilu := (judgeSlot s k c d).ilu } := by
  unfold judgeSlot
  cases c <;> rfl

theorem leaveAwaited_mdcOnly (s : State) (i : SignalId) :
    leaveAwaited s i = { s with mdc := (leaveAwaited s i).mdc } := by
  unfold leaveAwaited; split <;> rfl

/-- What the owner reads of a sample, beside the slots and the awaited set. -/
theorem sampledAt_eq (s : State) (i : SignalId) (v : Int) (seq : Nat) (p : Byte) :
    ∃ x m, sampledAt s i v seq p = { sampleSignal s i v seq p with ilu := x, mdc := m } := by
  unfold sampledAt judgeInputHeld
  rw [leaveAwaited_mdcOnly, judgeSlot_iluOnly]
  exact ⟨_, _, rfl⟩

theorem sampleSignal_same (s : State) (i : SignalId) (v : Int) (seq : Nat) (p : Byte) :
    (signal (sampleSignal s i v seq p) i).state = .valid ∧
      (signal (sampleSignal s i v seq p) i).value = some v := by
  unfold sampleSignal; rw [signal_updSignal]; exact ⟨rfl, rfl⟩

/-- A flux pressure below the minimum makes the pressure doubtful. -/
theorem sampledAt_doubtful {s : State} {v : Int} {h : NozzleHeader} (seq : Nat) (p : Byte)
    (header : s.tbs.nozzle.active.header = some h) (below : v < h.minPress) :
    (sampledAt s sigFlux v seq p).flx = s.flx ∧ pressureDoubtful (sampledAt s sigFlux v seq p) = true := by
  obtain ⟨state, value⟩ := sampleSignal_same s sigFlux v seq p
  obtain ⟨x, m, e⟩ := sampledAt_eq s sigFlux v seq p
  rw [e]
  exact ⟨rfl, pressureDoubtful_below state value header below⟩

end Sys2Proof.SelectiveFluxing
end

section
/-! SUPPORT. Spray windows, valves and accounts in the words of O21. -/

namespace Sys2Proof.SelectiveFluxing

open Sys2Proof.Machine Sys2Proof.Safety

/-! ### The opening of a spray window (R49) -/

theorem windowOpening {s : State} {g : Geometry} {b : Board} (found : findBoard s b.data.pIn = some b)
    (before : b.windows.spray = .before) (reached : evalPoint g ≤ leading s b.data) :
    judgeWindowOf g b.data.pIn s .spray = { putWindow s b.data.pIn .spray .opened with flx := { s.flx with
      accounts := s.flx.accounts ++ [⟨b.data.pIn, dispositionOf s b.data, 0, false⟩] } } :=
  judgeWindow_opens found before reached

/-! ### The flux outcome of a closing (R55, R57) -/

/-- Target and tolerance of a recipe's flux volume. -/
def fluxTarget (r : Option Recipe) : Nat := (r.bind fun r => r.fluxTarget).getD 0

def fluxTol (r : Option Recipe) : Nat := (r.bind fun r => r.fluxTol).getD 0

/-- The outcome of R55, by disposition, purge, doubt and volume. -/
def OutcomeOf (a : Account) (r : Option Recipe) (purged doubt : Bool) (volume : Nat) (out : FluxOutcome) : Prop :=
  let low := fluxTarget r * (100 - fluxTol r) / 100
  let high := fluxTarget r * (100 + fluxTol r) / 100
  (a.disposition = .noMap → out = .none) ∧ (a.disposition = .skipped → out = .skipped) ∧
  (a.disposition = .cut ∨ (a.disposition = .toSpray ∧ purged = true) → out = .cutShort) ∧
  (a.disposition = .toSpray → purged = false → (doubt = true → out = .uncertain) ∧
    (¬ doubt = true → volume < low → out = .low) ∧
    (¬ doubt = true → low ≤ volume → high < volume → out = .high) ∧
    (¬ doubt = true → low ≤ volume → volume ≤ high → out = .ok))

theorem outcomeOf_fluxOutcome (a : Account) (r : Option Recipe) (purged doubt : Bool) (volume : Nat) :
    OutcomeOf a r purged doubt volume
      (fluxOutcome { cutIf purged a with volume := volume, uncertain := doubt } r) := by
  unfold OutcomeOf fluxOutcome cutIf Account.cutOff fluxTarget fluxTol
  cases ha : a.disposition with
  | noMap => cases purged <;> simp [ha]
  | skipped => cases purged <;> simp [ha]
  | cut => cases purged <;> simp [ha]
  | toSpray =>
    cases purged with
    | true => simp
    | false =>
      cases doubt with
      | true => simp [ha]
      | false =>
        simp only [ha, Bool.false_eq_true, if_false, not_false_eq_true, reduceCtorEq, false_implies, and_false,
          or_self, true_implies, true_and]
        refine ⟨fun low => if_pos low, fun low high => ?_, fun low high => ?_⟩
        · rw [if_neg (not_lt.mpr low), if_pos high]
        · rw [if_neg (not_lt.mpr low), if_neg (not_lt.mpr high)]

/-- What the closing of a board's window does (R50, R53, R55, R57). -/
theorem windowClosing {s t : State} {b : BoardRecord} {purged : Bool} {a : Account} {x : Board}
    (found : accountOf s b.pIn = some a) (queued : findBoard s b.pIn = some x)
    (bound : a.volume ≤ Config.max32) (closed : t = windowClosed s .spray b purged) :
    let volume := min Config.max32
      (a.volume + (allNozzles.map fun n => owed s.now (closing (ofBoard b.pIn) s n)).sum)
    let doubt := a.uncertain || allNozzles.any fun n => (closing (ofBoard b.pIn) s n).any Interval.doubt
    ∃ out, OutcomeOf a (boardRecipe s b) purged doubt volume out ∧
      (∃ y, findBoard t b.pIn = some y ∧ y.data = { x.data with flux := some ⟨out, volume⟩ } ∧
        y.windows = x.windows) ∧
      t.flx.accounts = s.flx.accounts.filter (fun c => c.board ≠ b.pIn) ∧
      (∀ n : NozzleId, ((closing (ofBoard b.pIn) s n).isSome = true → (getNozzle t n).valve = none) ∧
        (closing (ofBoard b.pIn) s n = none → getNozzle t n = getNozzle s n)) ∧
      (out = .low ∨ out = .high ∨ out = .uncertain → t.ilu.slots[slotFluxTol].latched = true ∧
        t.ilu.slots[slotFluxTol].detail = b.tag) ∧
      (¬ (out = .low ∨ out = .high ∨ out = .uncertain) → t.ilu = s.ilu) := by
  intro volume doubt
  have only := sprayShut_flxOnly s b purged
  have recipe : boardRecipe (sprayShut s b purged) b = boardRecipe s b := by
    unfold boardRecipe activeRecipe; rw [only.tbs]
  have queue : findBoard (sprayShut s b purged) b.pIn = some x := by
    unfold findBoard at *; rw [only.trk]; exact queued
  have outcome := outcomeOf_fluxOutcome a (boardRecipe s b) purged doubt volume
  replace closed : t = closeSpray s b purged := closed
  rw [closeSpray_eq (sprayShut_account found bound), recipe] at closed
  revert outcome closed
  generalize fluxOutcome _ (boardRecipe s b) = out
  intro outcome closed
  rw [closed]
  refine ⟨out, outcome, ⟨_, sprayJudged_board queue out volume, rfl, rfl⟩, ?_, fun n => ?_, fun alarm => ?_,
    fun quiet => ?_⟩
  · rw [sprayJudged_accounts]; exact sprayShut_others s b purged
  · rw [getNozzle_sprayJudged]; exact sprayShut_nozzle s b purged n
  · exact sprayJudged_alarm (fluxOutcome_alarms.mpr alarm)
  · rw [sprayJudged_quiet fun h => quiet (fluxOutcome_alarms.mp h)]; exact only.ilu

theorem closing_doubt {p : Pos} {s : State} :
    (allNozzles.any fun n => (closing (ofBoard p) s n).any Interval.doubt) = true ↔
      ∃ n iv, closing (ofBoard p) s n = some iv ∧ iv.doubt = true := by
  simp only [List.any_eq_true, Option.any_eq_true, mem_allNozzles, true_and]

/-! ### A valve's closing and opening (R43, R53, R54) -/

theorem valveClosing {s : State} {n : NozzleId} {iv : Machine.Interval} (hv : (getNozzle s n).valve = some iv) :
    let t := closeValve s n
    t.flx.accounts = (s.flx.accounts.map fun a => if iv.owner = .board a.board then
      { a with
        volume := min 4294967295 (a.volume + elapsed s.now iv.openedAt * iv.rate)
        uncertain := a.uncertain || iv.doubt } else a) ∧
    t.flx.dwellFrom = some s.now ∧ (getNozzle t n).valve = none ∧ (getNozzle t n).waiting = none ∧
    ((getNozzle s n).waiting ≠ none → (getNozzle t n).inForce = (getNozzle s n).waiting) ∧
    ((getNozzle s n).waiting = none → (getNozzle t n).inForce = (getNozzle s n).inForce) ∧
    ∀ k : NozzleId, k ≠ n → getNozzle t k = getNozzle s k := by
  refine ⟨closeValve_accounts hv, closeValve_dwellFrom hv, ?_⟩
  rw [getNozzle_closeValve_same hv]
  refine ⟨rfl, rfl, fun waits => ?_, fun none_waits => ?_, fun k ne => getNozzle_closeValve ne.symm⟩
  · obtain ⟨e, he⟩ := Option.ne_none_iff_exists'.mp waits
    unfold closedNozzle; rw [he]; rfl
  · unfold closedNozzle; rw [none_waits]; rfl

theorem valveOpening {s : State} {n : NozzleId} {o : ValveOwner} {e : NozzleEntry} {h : NozzleHeader}
    (entry : (getNozzle s n).inForce = some e) (header : s.tbs.nozzle.active.header = some h) :
    ∃ iv, (getNozzle (openValve s n o) n).valve = some iv ∧ iv.owner = o ∧ iv.openedAt = s.now ∧
      iv.rate = e.flow ∧ iv.maxOpen = h.maxOpen ∧ (iv.doubt = true ↔
        ¬ ((signal s sigFlux).state = .valid ∧ ∃ v, (signal s sigFlux).value = some v ∧ h.minPress ≤ v)) := by
  refine ⟨openedInterval s n o, by rw [getNozzle_openValve_same], rfl, rfl, ?_, ?_, pressureDoubtful_iff header⟩
  · unfold openedInterval; rw [entry]
  · unfold openedInterval; rw [header]

/-! ### The statement -/

/-- Settles O21: the windows' and valves' rules one by one, the bar after every event from its re-evaluation
in the last round, and the doubt marks as laws of FLX. -/
theorem sprayAccounts : Obligations.SprayAccounts := by
  unfold Obligations.SprayAccounts
  refine ⟨fun s g b found => ⟨fun before reached => ?_, fun opened past => judgeWindow_closes found opened past⟩,
    fun s b purged a x found queued => ?_, fun s g hg => ⟨fun b hb only n free => settle_covered hg hb only n free,
      fun none_covers n iv hv => settle_uncovered hg none_covers n iv hv⟩,
    fun s n iv hv => valveClosing hv, fun s n o e h entry header => valveOpening entry header,
    fun s n iv run hv => ⟨fun t0 m hold valid fresh entry hasHold due => ?_, fun v seq p h header below => ?_⟩⟩
  · rw [windowOpening found before reached, dispositionOf_eq]
    rfl
  · intro t own paid volume doubt target tol bound
    have own_eq : own = closing (ofBoard b.pIn) s := rfl
    have paid_eq : paid = (allNozzles.map fun n => owed s.now (closing (ofBoard b.pIn) s n)).sum := rfl
    obtain ⟨out, outcome, board, accounts, nozzles, alarm, quiet⟩ :=
      windowClosing (t := t) (purged := purged) found queued bound rfl
    have doubt_iff : (a.uncertain || allNozzles.any fun n =>
        (closing (ofBoard b.pIn) s n).any Interval.doubt) = true ↔ doubt := by
      rw [Bool.or_eq_true, closing_doubt, ← own_eq]
    rw [← paid_eq] at outcome board
    unfold OutcomeOf at outcome
    rw [doubt_iff] at outcome
    obtain ⟨noMap, skipped, cut, sprayed⟩ := outcome
    exact ⟨out, noMap, skipped, cut, sprayed, board, accounts, nozzles, alarm, quiet⟩
  · refine ⟨becomeHeld s sigFlux, ?_, ?_⟩
    · rw [exec_holdTime run, ifDue_true (holdDue_of valid fresh entry hasHold due)]
    · exact settle_doubted (heldAt_flx s sigFlux) (pressureDoubtful_held (heldAt_signal s sigFlux)) hv
  · obtain ⟨flx, doubtful⟩ := sampledAt_doubtful seq p header below
    exact settle_doubted flx doubtful hv

end Sys2Proof.SelectiveFluxing
end

section
/-! SUPPORT. Changes of mode: MAINT_LINE_EDGE (R191) and MODE_SET (R190), with what the departure from a mode
ends (R63, R130, R192) and the entry into RUN begins (R111, R192). -/

namespace Sys2Proof.SelectiveFluxing

open Sys2Proof.Machine Sys2Proof.Safety

/-! ### What a change of mode leaves -/

/-- What a change of mode leaves as it was. -/
structure MovedOnly (s t : State) : Prop where
  lines : t.lines = s.lines
  now : t.now = s.now
  tbs : t.tbs = s.tbs
  lnk : t.lnk = s.lnk
  trk : t.trk = s.trk
  mge : t.mge = s.mge
  limits : t.lst.limits = s.lst.limits
  storage : t.lst.storage = s.lst.storage
  framed : Framed s t [] [] []

theorem MovedOnly.trans {s t u : State} (h : MovedOnly s t) (k : MovedOnly t u) : MovedOnly s u :=
  ⟨k.lines.trans h.lines, k.now.trans h.now, k.tbs.trans h.tbs, k.lnk.trans h.lnk, k.trk.trans h.trk,
    k.mge.trans h.mge, k.limits.trans h.limits, k.storage.trans h.storage, framed_trans h.framed k.framed⟩

theorem MovedOnly.of_process {s t : State} (h : ProcessOnly s t) (framed : Framed s t [] [] []) :
    MovedOnly s t :=
  ⟨h.lines, h.now, h.tbs, h.lnk, h.trk, h.mge, h.limits, h.storage, framed⟩

/-- A change of the pot or the mode alone. -/
theorem movedOnly_pot (s : State) (p : Pot) : MovedOnly s { s with pot := p } :=
  ⟨rfl, rfl, rfl, rfl, rfl, rfl, rfl, rfl, ⟨loopsKept_of_eq rfl [], ⟨rfl, fun _ => ⟨rfl, rfl⟩⟩, fun _ _ => rfl,
    fun _ _ _ => rfl, fun _ _ => rfl, fun _ => .inl rfl⟩⟩

theorem movedOnly_mdc (s : State) (m : Mdc) : MovedOnly s { s with mdc := m } :=
  ⟨rfl, rfl, rfl, rfl, rfl, rfl, rfl, rfl, ⟨loopsKept_of_eq rfl [], ⟨rfl, fun _ => ⟨rfl, rfl⟩⟩, fun _ _ => rfl,
    fun _ _ _ => rfl, fun _ _ => rfl, fun _ => .inl rfl⟩⟩

theorem movedOnly_endTest (s : State) (c : TestEnd) : MovedOnly s (endTest s c) :=
  .of_process (endTest_flxOnly s c).processOnly
    ((endTest_flxOnly s c).framed fun n _ => core_faulted (endTest_core s c) n)

theorem movedOnly_of_settled {s t : State} (h : SettledFrame s t) : MovedOnly s t :=
  .of_process h.process (framed_of_settled h _ _ _)

/-! ### The end of a jog (R128, R130) -/

/-- The feeder does not jog. -/
def NoJog (s : State) : Prop := ∀ t0 d, s.pot.feeder ≠ .jog t0 d

theorem endJog_noJog (s : State) : NoJog (endJog s) := by
  unfold NoJog endJog feederOff feederRun
  cases h : s.pot.feeder <;> simp [h]

theorem feederOff_potOnly (s : State) :
    feederOff s = { s with pot := (feederOff s).pot } ∧ (feederOff s).pot.state = s.pot.state := by
  unfold feederOff; split <;> exact ⟨rfl, rfl⟩

theorem endJog_potOnly (s : State) :
    endJog s = { s with pot := (endJog s).pot } ∧ (endJog s).pot.state = s.pot.state := by
  unfold endJog; split
  · exact feederOff_potOnly s
  · exact ⟨rfl, rfl⟩
  · exact ⟨rfl, rfl⟩

/-! ### The departure from a mode -/

theorem leaveMode_maintenance {s : State} (h : s.mdc.mode = .maintenance) :
    leaveMode s = endJog (endTest s .modeLeft) := by
  unfold leaveMode; rw [h]

theorem leaveMode_run {s : State} (h : s.mdc.mode = .run) :
    leaveMode s = { s with mdc := { s.mdc with notReady := true, awaited := [] } } := by
  unfold leaveMode; rw [h]

theorem leaveMode_moved (s : State) : MovedOnly s (leaveMode s) := by
  unfold leaveMode; split
  · refine (movedOnly_endTest s .modeLeft).trans ?_
    rw [(endJog_potOnly _).1]
    exact movedOnly_pot _ _
  · exact movedOnly_mdc s _
  · exact movedOnly_mdc s s.mdc
  · exact movedOnly_mdc s s.mdc

theorem leaveMode_ended {s : State} (h : s.mdc.mode = .maintenance) :
    (leaveMode s).flx.test = none ∧ NoJog (leaveMode s) := by
  rw [leaveMode_maintenance h]
  refine ⟨?_, endJog_noJog _⟩
  rw [(endJog_potOnly _).1]
  exact endTest_test s .modeLeft

/-- A departure from another mode than RUN keeps the awaited set and NOT_READY. -/
theorem leaveMode_mdc {s : State} (h : s.mdc.mode ≠ .run) : (leaveMode s).mdc = s.mdc := by
  unfold leaveMode; split
  · rw [(endJog_potOnly _).1]; exact (endTest_flxOnly s .modeLeft).processOnly.mdc
  · next run => exact absurd run h
  · rfl
  · rfl

theorem leaveMode_beside (s : State) :
    (leaveMode s).mdc.cause = s.mdc.cause ∧ (leaveMode s).mdc.strap = s.mdc.strap := by
  by_cases h : s.mdc.mode = .run
  · rw [leaveMode_run h]; exact ⟨rfl, rfl⟩
  · rw [leaveMode_mdc h]; exact ⟨rfl, rfl⟩

theorem leaveMode_potState (s : State) : (leaveMode s).pot.state = s.pot.state := by
  unfold leaveMode; split
  · exact (endJog_potOnly _).2.trans (endTest_flxOnly s .modeLeft).potKept.state
  · rfl
  · rfl
  · rfl

/-! ### The entry into a mode -/

/-- The pot in SETBACK, its setpoint not composed yet. -/
def potInSetback (s : State) : State := potEnter s .setback

theorem potSetback_core (s : State) : (potSetback s).core = (potInSetback s).core :=
  (judgeBand_core _ loopP).trans (compose_core _ loopP)

theorem potSetback_beside (s : State) : MovedOnly s (potSetback s) ∧ (potSetback s).mdc = s.mdc ∧
    (potSetback s).flx = s.flx ∧ (potSetback s).pot.feeder = s.pot.feeder := by
  have core := potSetback_core s
  have gates : (potSetback s).fal.gates = (potInSetback s).fal.gates := by
    unfold potSetback; rw [judgeBand_fal, compose_fal]; rfl
  have flx : (potSetback s).flx = s.flx := compose_flx _ loopP
  exact ⟨(movedOnly_pot s _).trans (movedOnly_of_settled (settledFrame_of_core core (.inl gates))),
    (core_mdc core).trans rfl, flx, (core_feeder core).trans rfl⟩

theorem judgeSetback_beside (s : State) : MovedOnly s (judgeSetback s) ∧ (judgeSetback s).mdc = s.mdc ∧
    (judgeSetback s).flx = s.flx ∧ (judgeSetback s).pot.feeder = s.pot.feeder := by
  unfold judgeSetback
  split
  · exact potSetback_beside s
  · exact ⟨movedOnly_mdc s s.mdc, rfl, rfl, rfl⟩

/-- The entry into RUN forms the awaited set. -/
theorem enterMode_run {s : State} (h : s.mdc.mode = .run) : enterMode s =
    judgeSetback { s with mdc := { s.mdc with notReady := !(awaitedNow s).isEmpty, awaited := awaitedNow s } } := by
  unfold enterMode; rw [h]

theorem enterMode_other {s : State} (h : s.mdc.mode ≠ .run) : enterMode s = s := by
  unfold enterMode; split
  · next run => exact absurd run h
  · rfl
  · rfl
  · rfl

theorem enterMode_beside (s : State) : MovedOnly s (enterMode s) ∧ (enterMode s).flx = s.flx ∧
    (enterMode s).pot.feeder = s.pot.feeder := by
  by_cases h : s.mdc.mode = .run
  · rw [enterMode_run h]
    obtain ⟨moved, -, flx, feeder⟩ := judgeSetback_beside
      { s with mdc := { s.mdc with notReady := !(awaitedNow s).isEmpty, awaited := awaitedNow s } }
    exact ⟨(movedOnly_mdc s _).trans moved, flx, feeder⟩
  · rw [enterMode_other h]; exact ⟨movedOnly_mdc s s.mdc, rfl, rfl⟩

/-! ### A change of mode -/

/-- The mode put, between the departure and the entry. -/
def modePut (s : State) (m : Mode) : State := { leaveMode s with mdc := { (leaveMode s).mdc with mode := m } }

theorem changeMode_eq (s : State) (m : Mode) : changeMode s m = settleSpeed (enterMode (modePut s m)) := rfl

theorem modePut_moved (s : State) (m : Mode) : MovedOnly s (modePut s m) :=
  (leaveMode_moved s).trans (movedOnly_mdc _ _)

theorem changeMode_moved (s : State) (m : Mode) : MovedOnly s (changeMode s m) := by
  rw [changeMode_eq]
  exact ((modePut_moved s m).trans (enterMode_beside _).1).trans (movedOnly_of_settled (settleSpeed_frame _))

theorem changeMode_core (s : State) (m : Mode) : (changeMode s m).core = (enterMode (modePut s m)).core := by
  rw [changeMode_eq]; exact settleSpeed_core _

theorem changeMode_mdc_other (s : State) {m : Mode} (h : m ≠ .run) :
    (changeMode s m).mdc = { (leaveMode s).mdc with mode := m } := by
  rw [core_mdc (changeMode_core s m), enterMode_other h]; rfl

theorem awaitedNow_congr {s t : State} (tbs : t.tbs = s.tbs) (lnk : t.lnk = s.lnk) :
    awaitedNow t = awaitedNow s := by
  unfold awaitedNow mapped mapOf signal; rw [tbs, lnk]

theorem changeMode_mdc_run (s : State) : (changeMode s .run).mdc = { (leaveMode s).mdc with
    mode := .run, notReady := !(awaitedNow s).isEmpty, awaited := awaitedNow s } := by
  have moved := modePut_moved s .run
  rw [core_mdc (changeMode_core s .run), enterMode_run rfl, (judgeSetback_beside _).2.1,
    awaitedNow_congr moved.tbs moved.lnk]
  rfl

theorem mem_awaitedNow {s : State} {i : SignalId} :
    i ∈ awaitedNow s ↔ mapped s i = true ∧ (signal s i).state ≠ .valid := by
  unfold awaitedNow
  rw [List.mem_filter, Bool.and_eq_true, decide_eq_true_iff]
  exact and_iff_right (mem_allSignals i)

/-- No nozzle test runs. -/
def NoTest (s : State) : Prop := s.flx.test = none

theorem noTest_fluxLaw : FluxLaw NoTest where
  beside := fun _ flx _ h => by unfold NoTest; rw [flx]; exact h
  close := fun {u n iv} _ _ h => (closeValve_test u n).trans h
  opens := fun _ _ h => h
  ends := fun {u} _ _ => endTest_test u .inhibit
  cut := fun h => h
  doubt := fun {u} h => (markDoubt_beside u).2.1.trans h
  dwell := fun h => h
  fluxing := fun h => h

/-- A departure from MAINTENANCE leaves no nozzle test and no jog (R63, R130). -/
theorem changeMode_ended {s : State} {m : Mode} (h : s.mdc.mode = .maintenance) :
    (changeMode s m).flx.test = none ∧ NoJog (changeMode s m) := by
  obtain ⟨test, jog⟩ := leaveMode_ended h
  obtain ⟨-, flx, feeder⟩ := enterMode_beside (modePut s m)
  have entered : NoTest (enterMode (modePut s m)) := by unfold NoTest; rw [flx]; exact test
  have settled : NoTest (settleSpeed (enterMode (modePut s m))) := noTest_fluxLaw.settleSpeed entered
  refine ⟨changeMode_eq s m ▸ settled, fun t0 d => ?_⟩
  rw [core_feeder (changeMode_core s m), feeder]
  exact jog t0 d

/-! ### MAINT_LINE_EDGE (R191) -/

/-- The MAINT line at its new level. -/
def maintLine (s : State) (level : Bool) : State := { s with lines := { s.lines with maint := level } }

theorem exec_maintLine {s : State} {level : Bool} (run : Running s) (edge : s.lines.maint ≠ level) :
    exec (.maintLineEdge level) s = .next (maintEdge s level) := by
  have k : exec (.maintLineEdge level) s = if s.lines.maint = level then .next s
    else unlessHeld (maintLine s level) fun s => maintEdge s level := rfl
  rw [k, if_neg edge]
  exact unlessHeld_running (s := maintLine s level) run fun s => maintEdge s level

theorem maintEdge_leaves {s : State} (mode : s.mdc.mode = .maintenance) :
    maintEdge s false = changeMode (maintLine s false) .config :=
  if_pos (c := (maintLine s false).mdc.mode = .maintenance ∧ false = false) ⟨mode, rfl⟩

theorem maintEdge_stays {s : State} {level : Bool} (h : s.mdc.mode ≠ .maintenance ∨ level = true) :
    maintEdge s level = maintLine s level := by
  refine if_neg (c := (maintLine s level).mdc.mode = .maintenance ∧ level = false) fun ⟨mode, inactive⟩ => ?_
  rcases h with other | active
  · exact other mode
  · rw [active] at inactive; cases inactive

theorem maintLine_framed (s : State) (level : Bool) : Framed s (maintLine s level) [] [] [] :=
  ⟨loopsKept_of_eq rfl [], ⟨rfl, fun _ => ⟨rfl, rfl⟩⟩, fun _ _ => rfl, fun _ _ _ => rfl, fun _ _ => rfl,
    fun _ => .inl rfl⟩

theorem maintLine_leaves {s : State} (run : Running s) (active : s.lines.maint = true)
    (mode : s.mdc.mode = .maintenance) : ∃ t,
      exec (.maintLineEdge false) s = .next t ∧ t.mdc = { s.mdc with mode := .config } ∧
      t.flx.test = none ∧ (∀ t0 d, t.pot.feeder ≠ .jog t0 d) ∧ t.lines = (maintLine s false).lines ∧
      t.trk = s.trk ∧ t.mge = s.mge ∧ t.tbs = s.tbs ∧ t.lnk = s.lnk ∧ t.now = s.now ∧
      t.lst.limits = s.lst.limits ∧ t.pot.state = s.pot.state ∧ Framed s t [] [] [] := by
  let u := maintLine s false
  have away : u.mdc.mode ≠ .run := by
    intro e; have : s.mdc.mode = .run := e
    rw [mode] at this; cases this
  have moved := changeMode_moved u .config
  obtain ⟨test, jog⟩ := changeMode_ended (s := u) (m := .config) mode
  refine ⟨changeMode u .config, ?_, ?_, test, jog, moved.lines, moved.trk, moved.mge, moved.tbs, moved.lnk,
    moved.now, moved.limits, ?_, framed_trans (maintLine_framed s false) moved.framed⟩
  · rw [exec_maintLine run (by rw [active]; decide), maintEdge_leaves mode]
  · rw [changeMode_mdc_other u (by decide), leaveMode_mdc away]; rfl
  · rw [core_potState (changeMode_core u .config), enterMode_other (by decide : Mode.config ≠ .run)]
    exact leaveMode_potState u

/-! ### MODE_SET (R190) -/

theorem exec_modeSet {s : State} (run : Running s) (rid : Byte) (n : Nat) :
    exec (.modeSet rid n) s = .next (arriveWhole s rid (.modeSet n)) :=
  unlessHeld_running run fun s => arriveWhole s rid (.modeSet n)

theorem runRequest_modeSet (s : State) (n : Nat) : runRequest s (.modeSet n) = atOnce (modeRequest s n) := rfl

/-- A mode and its code, for a target of MODE_SET. -/
def Targets (n : Nat) (m : Mode) : Prop :=
  (n = 1 ∧ m = .config) ∨ (n = 2 ∧ m = .run) ∨ (n = 3 ∧ m = .maintenance)

theorem targetMode_of {n : Nat} {m : Mode} (h : Targets n m) : targetMode n = some m ∧ modeCode m = n := by
  rcases h with ⟨rfl, rfl⟩ | ⟨rfl, rfl⟩ | ⟨rfl, rfl⟩ <;> exact ⟨rfl, rfl⟩

theorem targetMode_none {n : Nat} (h : ¬ (n = 1 ∨ n = 2 ∨ n = 3)) : targetMode n = none := by
  unfold targetMode
  split <;> simp_all

theorem modeRequest_starting {s : State} {n : Nat} {m : Mode} (h : Targets n m) (mode : s.mdc.mode = .starting) :
    modeRequest s n = (s, refused .wrongMode) := by
  unfold modeRequest
  rw [(targetMode_of h).1]
  exact if_pos mode

theorem modeRequest_same {s : State} {n : Nat} {m : Mode} (h : Targets n m) (started : s.mdc.mode ≠ .starting)
    (mode : s.mdc.mode = m) : modeRequest s n = (s, done (put8 n)) := by
  obtain ⟨target, code⟩ := targetMode_of h
  unfold modeRequest
  rw [target]
  dsimp only
  rw [if_neg started, if_pos mode, code]

theorem modeRequest_refused {s : State} {n : Nat} {m : Mode} {r : Refused} (h : Targets n m)
    (started : s.mdc.mode ≠ .starting) (other : s.mdc.mode ≠ m) (refusal : modeRefusal s m = some r) :
    modeRequest s n = (s, refused r) := by
  unfold modeRequest
  rw [(targetMode_of h).1]
  dsimp only
  rw [if_neg started, if_neg other, refusal]

theorem modeRequest_moves {s : State} {n : Nat} {m : Mode} (h : Targets n m)
    (started : s.mdc.mode ≠ .starting) (other : s.mdc.mode ≠ m) (refusal : modeRefusal s m = none) :
    modeRequest s n = (changeMode s m, done (put8 n)) := by
  obtain ⟨target, code⟩ := targetMode_of h
  unfold modeRequest
  rw [target]
  dsimp only
  rw [if_neg started, if_neg other, refusal, code]

/-- A MODE_SET that changes nothing but MGE. -/
theorem modeSet_answered {s : State} (run : Running s) (rid : Byte) {n : Nat} {r : Reply}
    (h : modeRequest (arrived s) n = (arrived s, r)) :
    exec (.modeSet rid n) s = .next (onlyAnswered s rid 10 r) := by
  rw [exec_modeSet run, arriveWhole_only rid (r := r)]
  · rfl
  · rw [runRequest_modeSet, h]; rfl

theorem modeSet_refused {s : State} (run : Running s) (rid : Byte) {n : Nat} {m : Mode} {r : Refused}
    (h : Targets n m) (started : s.mdc.mode ≠ .starting) (other : s.mdc.mode ≠ m)
    (refusal : modeRefusal s m = some r) : exec (.modeSet rid n) s = .next (onlyAnswered s rid 10 (refused r)) :=
  modeSet_answered run rid (modeRequest_refused (s := arrived s) h started other refusal)

theorem modeSet_moves {s : State} (run : Running s) (rid : Byte) {n : Nat} {m : Mode} (h : Targets n m)
    (started : s.mdc.mode ≠ .starting) (other : s.mdc.mode ≠ m) (refusal : modeRefusal s m = none) :
    exec (.modeSet rid n) s =
      .next { changeMode (arrived s) m with mge := answered s rid 10 (done (put8 n)) } := by
  rw [exec_modeSet run, arriveWhole_answered rid (t := changeMode (arrived s) m) (r := done (put8 n))]
  · rfl
  · rw [runRequest_modeSet, modeRequest_moves (s := arrived s) h started other refusal]; rfl
  · exact (changeMode_moved (arrived s) m).mge

/-! ### The checks of a move (R190) -/

/-! The conditions of R190 in the order they are checked. -/

/-- MAINTENANCE is entered with the MAINT line active. -/
def Keyed (s : State) (m : Mode) : Prop := m = .maintenance → s.lines.maint = true

/-- RUN is left with no board in the queue. -/
def Emptied (s : State) : Prop := s.mdc.mode = .run → s.trk.queue = []

/-- RUN is entered with a valid block in force. -/
def Stored (s : State) (m : Mode) : Prop := m = .run → s.lst.block ≠ none

/-- RUN is entered with its eight tables committed. -/
def Configured (s : State) (m : Mode) : Prop := m = .run →
  s.tbs.slotMap.committed = true ∧ s.tbs.geometry.committed = true ∧ s.tbs.loop.committed = true ∧
  s.tbs.gate.committed = true ∧ s.tbs.phase.committed = true ∧ s.tbs.pot.committed = true ∧
  s.tbs.extraction.committed = true ∧ s.tbs.action.committed = true

theorem unkeyed_iff {s : State} {m : Mode} : m = .maintenance ∧ s.lines.maint = false ↔ ¬ Keyed s m := by
  unfold Keyed; rw [Classical.not_imp, Bool.not_eq_true]

theorem notEmptied_iff {s : State} : s.mdc.mode = .run ∧ s.trk.queue ≠ [] ↔ ¬ Emptied s := by
  unfold Emptied; rw [Classical.not_imp]

theorem notStored_iff {s : State} {m : Mode} : m = .run ∧ s.lst.block = none ↔ ¬ Stored s m := by
  unfold Stored; rw [Classical.not_imp, not_not]

theorem notConfigured_iff {s : State} {m : Mode} : m = .run ∧ configured s = false ↔ ¬ Configured s m := by
  unfold Configured configured
  rw [Classical.not_imp, Bool.eq_false_iff]
  simp only [ne_eq, Bool.and_eq_true, and_assoc]

theorem modeRefusal_unkeyed {s : State} {m : Mode} (h : ¬ Keyed s m) : modeRefusal s m = some .needsMaint :=
  if_pos (unkeyed_iff.mpr h)

theorem modeRefusal_keyed {s : State} {m : Mode} (keyed : Keyed s m) : modeRefusal s m =
    if s.mdc.mode = .run ∧ s.trk.queue ≠ [] then some .boardsInFlight
    else if m = .run ∧ s.lst.block = none then some .limitsBad
    else if m = .run ∧ configured s = false then some .notConfigured else none :=
  if_neg fun c => unkeyed_iff.mp c keyed

theorem modeRefusal_inFlight {s : State} {m : Mode} (keyed : Keyed s m) (h : ¬ Emptied s) :
    modeRefusal s m = some .boardsInFlight := by
  rw [modeRefusal_keyed keyed, if_pos (notEmptied_iff.mpr h)]

theorem modeRefusal_limits {s : State} {m : Mode} (keyed : Keyed s m) (empty : Emptied s) (h : ¬ Stored s m) :
    modeRefusal s m = some .limitsBad := by
  rw [modeRefusal_keyed keyed, if_neg fun c => notEmptied_iff.mp c empty, if_pos (notStored_iff.mpr h)]

/-- Past the first three checks, the tables alone count. -/
theorem modeRefusal_tables {s : State} {m : Mode} (keyed : Keyed s m) (empty : Emptied s) (stored : Stored s m) :
    modeRefusal s m = if m = .run ∧ configured s = false then some .notConfigured else none := by
  rw [modeRefusal_keyed keyed, if_neg fun c => notEmptied_iff.mp c empty, if_neg fun c => notStored_iff.mp c stored]

/-! ### The statement -/

/-- What a move leaves, with its answer written. -/
theorem MovedOnly.answered {s v : State} (h : MovedOnly (arrived s) v) (m : Mge) :
    let t : State := { v with mge := m }
    t.lines = s.lines ∧ t.now = s.now ∧ t.tbs = s.tbs ∧ t.lnk = s.lnk ∧ t.trk = s.trk ∧
      t.lst.limits = s.lst.limits ∧ t.lst.storage = s.lst.storage ∧ Framed s t [] [] [] :=
  ⟨h.lines, h.now, h.tbs, h.lnk, h.trk, h.limits, h.storage, h.framed.loops, h.framed.hoods, h.framed.nozzles,
    h.framed.slots, h.framed.starve, h.framed.gates⟩

/-- Mode, awaited set and NOT_READY after a move (R190, R192). -/
theorem changeMode_readiness (s : State) (m : Mode) :
    let mdc := (changeMode s m).mdc
    mdc.mode = m ∧ mdc.cause = s.mdc.cause ∧ mdc.strap = s.mdc.strap ∧
      (m = .run → mdc.notReady = !mdc.awaited.isEmpty ∧
        ∀ i : SignalId, i ∈ mdc.awaited ↔ mapped s i = true ∧ (signal s i).state ≠ .valid) ∧
      (m ≠ .run → s.mdc.mode = .run → mdc.notReady = true) ∧
      (m ≠ .run → s.mdc.mode ≠ .run →
        mdc.notReady = s.mdc.notReady ∧ mdc.awaited = s.mdc.awaited) := by
  obtain ⟨cause, strap⟩ := leaveMode_beside s
  by_cases run : m = .run
  · subst run
    rw [changeMode_mdc_run]
    exact ⟨rfl, cause, strap, fun _ => ⟨rfl, fun i => mem_awaitedNow⟩, fun no => absurd rfl no,
      fun no => absurd rfl no⟩
  · rw [changeMode_mdc_other s run]
    refine ⟨rfl, cause, strap, fun yes => absurd yes run, fun _ from_run => ?_, fun _ away => ?_⟩
    · rw [leaveMode_run from_run]
    · rw [leaveMode_mdc away]; exact ⟨rfl, rfl⟩

/-- Settles O51: a change of mode departure by departure, and MODE_SET's checks in their order. -/
theorem modeChanges : Obligations.ModeChanges := by
  unfold Obligations.ModeChanges
  refine ⟨fun s level run => ⟨fun same => if_pos same, fun edge stays => ?_, fun active inactive mode => ?_⟩,
    fun s rid n run => ⟨fun bad => ?_, fun m target => ⟨fun starting => ?_, fun same => ?_,
      fun ⟨started, other⟩ keyed => modeSet_refused run rid target started other (modeRefusal_unkeyed keyed),
      fun ⟨started, other⟩ keyed empty =>
        modeSet_refused run rid target started other (modeRefusal_inFlight keyed empty),
      fun ⟨started, other⟩ keyed empty valid =>
        modeSet_refused run rid target started other (modeRefusal_limits keyed empty valid),
      fun ⟨started, other⟩ keyed empty valid set => modeSet_refused run rid target started other ?_,
      fun ⟨started, other⟩ keyed empty valid set =>
        ⟨_, modeSet_moves run rid target started other ?_, ?_⟩⟩⟩⟩
  · rw [exec_maintLine run edge, maintEdge_stays stays]; rfl
  · subst inactive; exact maintLine_leaves run active mode
  · exact modeSet_answered run rid (by unfold modeRequest; rw [targetMode_none bad])
  · exact modeSet_answered run rid (modeRequest_starting (s := arrived s) target starting)
  · have started : s.mdc.mode ≠ .starting := by
      rw [same]; rcases target with ⟨-, rfl⟩ | ⟨-, rfl⟩ | ⟨-, rfl⟩ <;> decide
    exact modeSet_answered run rid (modeRequest_same (s := arrived s) target started same)
  · rw [modeRefusal_tables keyed empty valid, if_pos (notConfigured_iff.mpr set)]
  · rw [modeRefusal_tables keyed empty valid, if_neg fun c => notConfigured_iff.mp c set]
  · obtain ⟨mode, cause, strap, entry, departure, beside⟩ := changeMode_readiness (arrived s) m
    have ended := changeMode_ended (s := arrived s) (m := m)
    have moved := changeMode_moved (arrived s) m
    generalize changeMode (arrived s) m = v at *
    exact ⟨rfl, mode, cause, strap, entry, departure, beside, ended, moved.answered _⟩

end Sys2Proof.SelectiveFluxing
end

section
/-! SUPPORT. The samples and the loss of a hood's pressures (R133, R142), with what a sample leaves (R170,
R173, R192). -/

namespace Sys2Proof.SelectiveFluxing

open Sys2Proof.Machine Sys2Proof.Safety

/-! ### The root of a duct pressure (R133) -/

/-- `isqrtBelow` finds the greatest root up to its bound. -/
theorem isqrtBelow_spec (n k : Nat) : isqrtBelow n k * isqrtBelow n k ≤ n ∧
    (isqrtBelow n k = k ∨ n < (isqrtBelow n k + 1) * (isqrtBelow n k + 1)) := by
  induction k with
  | zero => exact ⟨Nat.zero_le n, .inl rfl⟩
  | succ k ih =>
    unfold isqrtBelow
    split
    · next fits => exact ⟨fits, .inl rfl⟩
    · next big =>
      obtain ⟨low, high⟩ := ih
      refine ⟨low, .inr ?_⟩
      rcases high with e | high
      · rw [e]; exact not_le.mp big
      · exact high

theorem isqrt_spec {n : Nat} (h : n < 65536) : isqrt n * isqrt n ≤ n ∧ n < (isqrt n + 1) * (isqrt n + 1) := by
  obtain ⟨low, high⟩ := isqrtBelow_spec n 255
  refine ⟨low, ?_⟩
  unfold isqrt
  rcases high with e | high
  · rw [e]; exact h
  · exact high

theorem airflowOf_root {v : Int} (h : v ≤ 32767) (kf : Nat) : ∃ r : Nat, (r : Int) * r ≤ max 0 v ∧
    max 0 v < ((r : Int) + 1) * (r + 1) ∧ airflowOf kf v = min 65535 (kf * r / 64) := by
  obtain ⟨low, high⟩ := isqrt_spec (n := v.toNat) (by omega)
  have e : ((v.toNat : Nat) : Int) = max 0 v := by omega
  refine ⟨isqrt v.toNat, ?_, ?_, rfl⟩
  · rw [← e]; exact_mod_cast low
  · rw [← e]; exact_mod_cast high

/-! ### The signals (R170, R173) -/

theorem anyHeld_iff {s : State} : anyHeld s = true ↔ ∃ j : SignalId, (signal s j).state = .held := by
  unfold anyHeld signal
  simp only [List.any_eq_true, decide_eq_true_eq]
  constructor
  · rintro ⟨g, hg, e⟩
    obtain ⟨i, hi, rfl⟩ := Vector.getElem_of_mem (Vector.mem_toList_iff.mp hg)
    exact ⟨⟨i, hi⟩, e⟩
  · rintro ⟨j, e⟩
    exact ⟨_, Vector.mem_toList_iff.mpr (Vector.getElem_mem j.isLt), e⟩

/-- After a sample of signal i the HELD signals are the others that were HELD. -/
theorem anyHeld_sampled (s : State) (i : SignalId) (v : Int) (seq : Nat) (p : Byte) :
    (∃ j : SignalId, j ≠ i ∧ (signal s j).state = .held) ↔ anyHeld (sampleSignal s i v seq p) = true := by
  rw [anyHeld_iff]
  refine exists_congr fun j => ?_
  by_cases e : j = i
  · subst e
    rw [(sampleSignal_same s j v seq p).1]
    simp
  · unfold sampleSignal
    rw [signal_updSignal_other _ _ _ _ e]
    exact and_iff_right e

theorem leaveAwaited_mdc (s : State) (i : SignalId) : (leaveAwaited s i).mdc = { s.mdc with
    awaited := s.mdc.awaited.filter fun j => j ≠ i
    notReady := s.mdc.notReady &&
      !(decide (i ∈ s.mdc.awaited) && (s.mdc.awaited.filter fun j => j ≠ i).isEmpty) } := by
  unfold leaveAwaited
  split
  · next mem => simp only [mem, decide_true, Bool.true_and]
  · next no =>
    have same : s.mdc.awaited.filter (fun j => j ≠ i) = s.mdc.awaited :=
      List.filter_eq_self.mpr fun j hj => decide_eq_true fun e => no (e ▸ hj)
    simp only [same, no, decide_false, Bool.false_and, Bool.not_false, Bool.and_true]

/-! ### What a sample leaves -/

theorem sampledAt_sampled (s : State) (i : SignalId) (v : Int) (seq : Nat) (p : Byte) :
    Sampled s (sampledAt s i v seq p) i v seq p := by
  have ilu : (sampledAt s i v seq p).ilu = (judgeInputHeld (sampleSignal s i v seq p) i).ilu := by
    unfold sampledAt; rw [leaveAwaited_mdcOnly]
  have slot : (sampledAt s i v seq p).ilu.slots[slotInputHeld.val] =
      slotAfter (anyHeld (sampleSignal s i v seq p)) i.val s.ilu.slots[slotInputHeld.val] := by
    rw [ilu]; exact judgeSlot_same _ slotInputHeld _ _
  have mdc : (sampledAt s i v seq p).mdc = (leaveAwaited s i).mdc := by
    unfold sampledAt judgeInputHeld
    rw [leaveAwaited_mdc, leaveAwaited_mdc, judgeSlot_mdc]
    rfl
  obtain ⟨x, m, e⟩ := sampledAt_eq s i v seq p
  constructor
  case awaited => rw [mdc, leaveAwaited_mdc]
  case held => exact slotJudged_of_after (anyHeld_sampled s i v seq p) slot
  all_goals rw [e]; rfl

/-- What a sample of a hood's pressure leaves as it was, beside the slots named. -/
structure SampleFrame (s x : State) (ks : List SlotId) : Prop where
  trk : x.trk = s.trk
  loops : LoopsKept s x []
  pot : PotKept s x
  faults : FaultsKept s x []
  lockout : x.exu.lockout = s.exu.lockout
  slots : SlotsKept s x (slotInputHeld :: ks)
  lockoutFrom : ∀ k : HoodId, (getHood x k).lockoutFrom = (getHood s k).lockoutFrom

theorem sampledAt_frame (s : State) (i : SignalId) (v : Int) (seq : Nat) (p : Byte) :
    SampleFrame s (sampledAt s i v seq p) [] := by
  have ilu : (sampledAt s i v seq p).ilu = (judgeInputHeld (sampleSignal s i v seq p) i).ilu := by
    unfold sampledAt; rw [leaveAwaited_mdcOnly]
  have slots : SlotsKept s (sampledAt s i v seq p) [slotInputHeld] := by
    intro k _ hk
    rw [ilu]
    exact judgeSlot_other (List.ne_of_not_mem_cons hk) _ _
  obtain ⟨x, m, e⟩ := sampledAt_eq s i v seq p
  constructor
  case slots => exact slots
  case loops => exact loopsKept_of_eq (by rw [e]; rfl) []
  case pot => exact potKept_of_eq (by rw [e]; rfl)
  case faults => intro n _; rw [e]; rfl
  case lockoutFrom => intro k; rw [e]; rfl
  all_goals rw [e]; rfl

/-- The marks and `settle` leave what a sample brought. -/
theorem sampled_settled {s o : State} {i : SignalId} {v : Int} {seq : Nat} {p : Byte}
    (h : Sampled s o i v seq p) : Sampled s (settle (markDoubt o)) i v seq p := by
  obtain ⟨process, framed, -⟩ := settled_flxChange (ns := []) (markDoubt_flxOnly o)
    fun n _ => core_faulted (markDoubt_core o) n
  have slot := framed.slots slotInputHeld (by unfold Judged; decide) List.not_mem_nil
  exact
    { lnk := process.lnk.trans h.lnk
      awaited := process.mdc.trans h.awaited
      held := by unfold SlotJudged; rw [slot]; exact h.held
      lines := process.lines.trans h.lines
      now := process.now.trans h.now
      tbs := process.tbs.trans h.tbs
      mge := process.mge.trans h.mge
      limits := process.limits.trans h.limits
      storage := process.storage.trans h.storage }

theorem sampleFrame_settled {s o : State} {ks : List SlotId} (h : SampleFrame s o ks) :
    SampleFrame s (settle (markDoubt o)) ks := by
  obtain ⟨process, framed, pot⟩ := settled_flxChange (ns := []) (markDoubt_flxOnly o)
    fun n _ => core_faulted (markDoubt_core o) n
  exact
    { trk := process.trk.trans h.trk
      loops := loopsKept_trans h.loops framed.loops
      pot := potKept_trans h.pot pot
      faults := fun n hn => (framed.nozzles n hn).trans (h.faults n hn)
      lockout := framed.hoods.1.trans h.lockout
      slots := fun k hk no => (framed.slots k hk List.not_mem_nil).trans (h.slots k hk no)
      lockoutFrom := fun k => (framed.hoods.2 k).2.trans (h.lockoutFrom k) }

/-- The airflow after the marks and `settle`. -/
theorem settled_airflow (o : State) (k : HoodId) :
    (getHood (settle (markDoubt o)) k).airflow = (getHood o k).airflow :=
  ((settled_flxChange (ns := []) (markDoubt_flxOnly o)
    fun n _ => core_faulted (markDoubt_core o) n).2.1.hoods.2 k).1

theorem settled_slot (o : State) {k : SlotId} (h : ¬ Judged k) :
    (settle (markDoubt o)).ilu.slots[k] = o.ilu.slots[k] :=
  (settled_flxChange (ns := []) (markDoubt_flxOnly o)
    fun n _ => core_faulted (markDoubt_core o) n).2.1.slots k h List.not_mem_nil

theorem settled_lnk (o : State) : (settle (markDoubt o)).lnk = o.lnk :=
  (settled_flxChange (ns := []) (markDoubt_flxOnly o) fun n _ => core_faulted (markDoubt_core o) n).1.lnk

/-! ### A duct pressure (R133) -/

theorem ownerSample_duct (s : State) (h : HoodId) (v : Int) : ownerSample s (sigDuct h) v = ductSample s h v := by
  rcases hood_cases h with rfl | rfl <;> rfl

theorem ductSample_exuOnly (s : State) (h : HoodId) (v : Int) :
    ductSample s h v = { s with exu := (ductSample s h v).exu } := by
  unfold ductSample; split <;> rfl

theorem ductSample_hood (s : State) (h : HoodId) (v : Int) : (ductSample s h v).exu.lockout = s.exu.lockout ∧
    (∀ k : HoodId, (getHood (ductSample s h v) k).lockoutFrom = (getHood s k).lockoutFrom) ∧
    (∀ k : HoodId, k ≠ h → (getHood (ductSample s h v) k).airflow = (getHood s k).airflow) ∧
    (activeExtraction s h = none → (getHood (ductSample s h v) h).airflow = (getHood s h).airflow) ∧
    ∀ e, activeExtraction s h = some e →
      (getHood (ductSample s h v) h).airflow = some (airflowOf e.kf v) := by
  unfold ductSample
  cases activeExtraction s h with
  | none => exact ⟨rfl, fun _ => rfl, fun _ _ => rfl, fun _ => rfl, fun _ e => nomatch e⟩
  | some e =>
    refine ⟨rfl, fun k => ?_, fun k ne => ?_, fun no => (nomatch no), fun x hx => ?_⟩
    · by_cases ne : k = h
      · rw [ne, getHood_updHood]
      · rw [getHood_updHood_other _ _ _ _ ne]
    · rw [getHood_updHood_other _ _ _ _ ne]
    · cases hx; rw [getHood_updHood]

theorem duct_sampled {s o : State} {i : SignalId} {v : Int} {seq : Nat} {p : Byte} (h : HoodId)
    (k : Sampled s o i v seq p) : Sampled s (ductSample o h v) i v seq p := by
  rw [ductSample_exuOnly]
  exact ⟨k.lnk, k.awaited, k.held, k.lines, k.now, k.tbs, k.mge, k.limits, k.storage⟩

theorem duct_frame {s o : State} {ks : List SlotId} (h : HoodId) (v : Int) (k : SampleFrame s o ks) :
    SampleFrame s (ductSample o h v) ks := by
  obtain ⟨lockout, from_, -⟩ := ductSample_hood o h v
  have only := ductSample_exuOnly o h v
  exact
    { trk := by rw [only]; exact k.trk
      loops := loopsKept_trans k.loops (loopsKept_of_eq (by rw [only]) [])
      pot := potKept_trans k.pot (potKept_of_eq (by rw [only]))
      faults := fun n hn => by rw [only]; exact k.faults n hn
      lockout := lockout.trans k.lockout
      slots := by rw [only]; exact k.slots
      lockoutFrom := fun j => (from_ j).trans (k.lockoutFrom j) }

/-! ### A filter pressure (R142) -/

theorem ownerSample_filter (s : State) (h : HoodId) (v : Int) :
    ownerSample s (sigFilter h) v = judgeFilter s h v := by
  rcases hood_cases h with rfl | rfl <;> rfl

theorem judgeFilter_iluOnly (s : State) (h : HoodId) (v : Int) :
    judgeFilter s h v = { s with ilu := (judgeFilter s h v).ilu } := by
  unfold judgeFilter
  split
  · rfl
  · dsimp only; rw [judgeSlot_iluOnly, judgeSlot_iluOnly s]

theorem filterSlots_ne (h : HoodId) : slotFilterLoaded h ≠ slotFilterBlocked h ∧
    slotInputHeld ≠ slotFilterLoaded h ∧ slotInputHeld ≠ slotFilterBlocked h ∧
    ¬ Judged (slotFilterLoaded h) ∧ ¬ Judged (slotFilterBlocked h) := by
  unfold Judged
  revert h; decide

theorem judgeFilter_none {s : State} {h : HoodId} (hx : activeExtraction s h = none) (v : Int) :
    judgeFilter s h v = s := by
  unfold judgeFilter; rw [hx]

theorem judgeFilter_slots {s : State} {h : HoodId} {e : ExtractionEntry} (hx : activeExtraction s h = some e)
    (v : Int) : (judgeFilter s h v).ilu.slots[(slotFilterLoaded h).val] =
      slotAfter (decide ((e.warnDrop : Int) ≤ v)) v s.ilu.slots[(slotFilterLoaded h).val] ∧
    (judgeFilter s h v).ilu.slots[(slotFilterBlocked h).val] =
      slotAfter (decide ((e.maxDrop : Int) ≤ v)) v s.ilu.slots[(slotFilterBlocked h).val] := by
  have ne := (filterSlots_ne h).1
  unfold judgeFilter
  rw [hx]
  dsimp only
  rw [judgeSlot_other ne, judgeSlot_same, judgeSlot_same, judgeSlot_other ne.symm]
  exact ⟨rfl, rfl⟩

theorem judgeFilter_slot_other {s : State} {h : HoodId} {k : SlotId} (loaded : k ≠ slotFilterLoaded h)
    (blocked : k ≠ slotFilterBlocked h) (v : Int) :
    (judgeFilter s h v).ilu.slots[k.val] = s.ilu.slots[k.val] := by
  unfold judgeFilter
  split
  · rfl
  · dsimp only; rw [judgeSlot_other blocked, judgeSlot_other loaded]

theorem filter_sampled {s o : State} {i : SignalId} {v : Int} {seq : Nat} {p : Byte} (h : HoodId)
    (k : Sampled s o i v seq p) : Sampled s (judgeFilter o h v) i v seq p := by
  obtain ⟨-, loaded, blocked, -⟩ := filterSlots_ne h
  have held : SlotJudged s (judgeFilter o h v) slotInputHeld (∃ j : SignalId, j ≠ i ∧ (signal s j).state = .held)
      i.val := by
    unfold SlotJudged
    rw [Fin.getElem_fin (judgeFilter o h v).ilu.slots, judgeFilter_slot_other loaded blocked]
    exact k.held
  have only := judgeFilter_iluOnly o h v
  constructor
  case held => exact held
  all_goals rw [only]
  exacts [k.lnk, k.awaited, k.lines, k.now, k.tbs, k.mge, k.limits, k.storage]

theorem filter_frame {s o : State} (h : HoodId) (v : Int) (k : SampleFrame s o []) :
    SampleFrame s (judgeFilter o h v) [slotFilterLoaded h, slotFilterBlocked h] := by
  have slots : SlotsKept s (judgeFilter o h v) [slotInputHeld, slotFilterLoaded h, slotFilterBlocked h] := by
    intro j hj no
    simp only [List.mem_cons, List.not_mem_nil, or_false, not_or] at no
    obtain ⟨held, loaded, blocked⟩ := no
    exact (judgeFilter_slot_other loaded blocked v).trans (k.slots j hj (by simpa using held))
  have only := judgeFilter_iluOnly o h v
  exact
    { trk := by rw [only]; exact k.trk
      loops := loopsKept_trans k.loops (loopsKept_of_eq (by rw [only]) [])
      pot := potKept_trans k.pot (potKept_of_eq (by rw [only]))
      faults := fun n hn => by rw [only]; exact k.faults n hn
      lockout := by rw [only]; exact k.lockout
      slots := slots
      lockoutFrom := fun j => by rw [only]; exact k.lockoutFrom j }

end Sys2Proof.SelectiveFluxing
end

section
/-! SUPPORT. A hood after every event (R134 to R138, R143, R144), in the words of O40. -/

namespace Sys2Proof.SelectiveFluxing

open Sys2Proof.Machine Sys2Proof.Safety

/-! ### The samples in the words of the statement -/

theorem sampledAt_extraction (s : State) (i : SignalId) (v : Int) (seq : Nat) (p : Byte) (h : HoodId) :
    activeExtraction (sampledAt s i v seq p) h = activeExtraction s h := by
  unfold activeExtraction; rw [(sampledAt_sampled s i v seq p).tbs]

theorem sampledAt_airflow (s : State) (i : SignalId) (v : Int) (seq : Nat) (p : Byte) (h : HoodId) :
    (getHood (sampledAt s i v seq p) h).airflow = (getHood s h).airflow := by
  obtain ⟨x, m, e⟩ := sampledAt_eq s i v seq p
  rw [e]; rfl

theorem ductSample_event {s t : State} {h : HoodId} {v : Int} {seq : Nat} {p : Byte}
    (event : t = freshSample s (sigDuct h) v seq p) :
    Sampled s t (sigDuct h) v seq p ∧ SampleFrame s t [] ∧
      (∀ k : HoodId, k ≠ h → (getHood t k).airflow = (getHood s k).airflow) ∧
      (activeExtraction s h = none → (getHood t h).airflow = (getHood s h).airflow) ∧
      ∀ e, activeExtraction s h = some e → (getHood t h).airflow = some (airflowOf e.kf v) := by
  rw [freshSample_eq, ownerSample_duct] at event
  have sampled := sampledAt_sampled s (sigDuct h) v seq p
  have frame := sampledAt_frame s (sigDuct h) v seq p
  obtain ⟨-, -, others, uncommitted, committed⟩ := ductSample_hood (sampledAt s (sigDuct h) v seq p) h v
  rw [sampledAt_extraction] at uncommitted committed
  have flow (k : HoodId) := sampledAt_airflow s (sigDuct h) v seq p k
  subst event
  refine ⟨sampled_settled (duct_sampled h sampled), sampleFrame_settled (duct_frame h v frame),
    fun k ne => ?_, fun no => ?_, fun e he => ?_⟩
  · rw [settled_airflow, others k ne, flow]
  · rw [settled_airflow, uncommitted no, flow]
  · rw [settled_airflow, committed e he]

theorem filterSample_event {s t : State} {h : HoodId} {v : Int} {seq : Nat} {p : Byte}
    (event : t = freshSample s (sigFilter h) v seq p) :
    Sampled s t (sigFilter h) v seq p ∧ SampleFrame s t [slotFilterLoaded h, slotFilterBlocked h] ∧
      (∀ k : HoodId, (getHood t k).airflow = (getHood s k).airflow) ∧
      (activeExtraction s h = none → t.ilu.slots[slotFilterLoaded h] = s.ilu.slots[slotFilterLoaded h] ∧
        t.ilu.slots[slotFilterBlocked h] = s.ilu.slots[slotFilterBlocked h]) ∧
      ∀ e, activeExtraction s h = some e →
        SlotJudged s t (slotFilterLoaded h) ((e.warnDrop : Int) ≤ v) v ∧
        SlotJudged s t (slotFilterBlocked h) ((e.maxDrop : Int) ≤ v) v := by
  rw [freshSample_eq, ownerSample_filter] at event
  obtain ⟨-, heldLoaded, heldBlocked, loadedKept, blockedKept⟩ := filterSlots_ne h
  have sampled := sampledAt_sampled s (sigFilter h) v seq p
  have frame := sampledAt_frame s (sigFilter h) v seq p
  have loaded := frame.slots (slotFilterLoaded h) loadedKept (by simpa using heldLoaded.symm)
  have blocked := frame.slots (slotFilterBlocked h) blockedKept (by simpa using heldBlocked.symm)
  have extraction := sampledAt_extraction s (sigFilter h) v seq p h
  have flow (k : HoodId) := sampledAt_airflow s (sigFilter h) v seq p k
  generalize sampledAt s (sigFilter h) v seq p = o at *
  have same (k : HoodId) : getHood (judgeFilter o h v) k = getHood o k := by rw [judgeFilter_iluOnly]; rfl
  subst event
  refine ⟨sampled_settled (filter_sampled h sampled), sampleFrame_settled (filter_frame h v frame),
    fun k => ?_, fun no => ?_, fun e he => ?_⟩
  · rw [settled_airflow, same, flow]
  · rw [settled_slot _ loadedKept, settled_slot _ blockedKept, judgeFilter_none (extraction.trans no)]
    exact ⟨loaded, blocked⟩
  · obtain ⟨judgedLoaded, judgedBlocked⟩ := judgeFilter_slots (extraction.trans he) v
    have loaded' := settled_slot (judgeFilter o h v) loadedKept
    have blocked' := settled_slot (judgeFilter o h v) blockedKept
    simp only [Fin.getElem_fin] at loaded blocked loaded' blocked'
    rw [loaded] at judgedLoaded
    rw [blocked] at judgedBlocked
    exact ⟨slotJudged_of_after decide_eq_true_iff.symm (loaded'.trans judgedLoaded),
      slotJudged_of_after decide_eq_true_iff.symm (blocked'.trans judgedBlocked)⟩

/-! ### The loss of a hood's pressure (R133, R142) -/

/-- A signal put to LOST, before its owner's part. -/
def lostAt (s : State) (i : SignalId) : State := judgeInputHeld (updSignal s i fun g => { g with state := .lost }) i

theorem becomeLost_eq (s : State) (i : SignalId) :
    becomeLost s i = settle (markDoubt (ownerLost (lostAt s i) i)) := rfl

theorem lostAt_signal (s : State) (i : SignalId) : (signal (lostAt s i) i).state = .lost := by
  have k : signal (lostAt s i) i = signal (updSignal s i fun g => { g with state := .lost }) i := by
    unfold lostAt judgeInputHeld signal; rw [judgeSlot_lnk]
  rw [k, signal_updSignal]

theorem lostAt_slot {s : State} {i : SignalId} {k : SlotId} (ne : k ≠ slotInputHeld) :
    (lostAt s i).ilu.slots[k.val] = s.ilu.slots[k.val] := judgeSlot_other ne _ _

theorem ownerLost_duct (s : State) (h : HoodId) : ownerLost s (sigDuct h) = ductLost s h := by
  rcases hood_cases h with rfl | rfl <;> rfl

theorem ownerLost_filter (s : State) (h : HoodId) : ownerLost s (sigFilter h) = filterLost s h := by
  rcases hood_cases h with rfl | rfl <;> rfl

theorem sigDuct_ne_sigFilter (h : HoodId) : sigDuct h ≠ sigFilter h := by revert h; decide

theorem filterLost_slots (s : State) (h : HoodId) :
    (filterLost s h).ilu.slots[(slotFilterLoaded h).val] = slotAfter false 0 s.ilu.slots[(slotFilterLoaded h).val] ∧
    (filterLost s h).ilu.slots[(slotFilterBlocked h).val] =
      slotAfter false 0 s.ilu.slots[(slotFilterBlocked h).val] := by
  have ne := (filterSlots_ne h).1
  unfold filterLost
  rw [lowerSlot_other ne, lowerSlot_same _ _ 0, lowerSlot_same _ _ 0, lowerSlot_other ne.symm]
  exact ⟨rfl, rfl⟩

theorem settled_signal {o : State} {i : SignalId} {x : SignalState} (h : (signal o i).state = x) :
    (signal (settle (markDoubt o)) i).state = x := by
  unfold signal at *; rw [settled_lnk]; exact h

theorem ductLost_event (s : State) (h : HoodId) : (signal (becomeLost s (sigDuct h)) (sigDuct h)).state = .lost ∧
    (getHood (becomeLost s (sigDuct h)) h).airflow = none := by
  have lost := lostAt_signal s (sigDuct h)
  rw [becomeLost_eq, ownerLost_duct, settled_airflow]
  generalize lostAt s (sigDuct h) = o at *
  refine ⟨settled_signal (o := ductLost o h) lost, ?_⟩
  unfold ductLost; rw [getHood_updHood]

theorem filterLost_event (s : State) (h : HoodId) :
    (signal (becomeLost s (sigFilter h)) (sigFilter h)).state = .lost ∧
      SlotJudged s (becomeLost s (sigFilter h)) (slotFilterLoaded h) False 0 ∧
      SlotJudged s (becomeLost s (sigFilter h)) (slotFilterBlocked h) False 0 := by
  obtain ⟨-, heldLoaded, heldBlocked, loadedKept, blockedKept⟩ := filterSlots_ne h
  have lost := lostAt_signal s (sigFilter h)
  have loaded := lostAt_slot (s := s) (i := sigFilter h) heldLoaded.symm
  have blocked := lostAt_slot (s := s) (i := sigFilter h) heldBlocked.symm
  rw [becomeLost_eq, ownerLost_filter]
  generalize lostAt s (sigFilter h) = o at *
  obtain ⟨lowLoaded, lowBlocked⟩ := filterLost_slots o h
  rw [loaded] at lowLoaded
  rw [blocked] at lowBlocked
  have loaded' := settled_slot (filterLost o h) loadedKept
  have blocked' := settled_slot (filterLost o h) blockedKept
  simp only [Fin.getElem_fin] at loaded' blocked'
  exact ⟨settled_signal (o := filterLost o h) lost,
    slotJudged_of_after (by simp) (loaded'.trans lowLoaded),
    slotJudged_of_after (by simp) (blocked'.trans lowBlocked)⟩

theorem exec_lostTime {s : State} (run : Running s) (i : SignalId) :
    exec (.lostTimeExpiry i) s = .next (ifDue (lostDue s i) s (becomeLost s i)) :=
  unlessHeld_running run fun s => ifDue (lostDue s i) s (becomeLost s i)

theorem lostDue_of {s : State} {i : SignalId} {t0 : Time} {m : MapEntry} {lost : Nat}
    (state : (signal s i).state = .held) (fresh : (signal s i).fresh = some t0) (entry : mapOf s i.val = some m)
    (hasLost : m.lost = some lost) (due : lost ≤ elapsed s.now t0) : lostDue s i = true := by
  unfold lostDue lostOfSignal
  simp only [state, fresh, entry, Option.bind_some, hasLost]
  exact decide_eq_true due

theorem pressure_lost {s : State} (h : HoodId) {i : SignalId} (pressure : i = sigDuct h ∨ i = sigFilter h) :
    (signal (becomeLost s i) i).state = .lost ∧
      (i = sigDuct h → (getHood (becomeLost s i) h).airflow = none) ∧
      (i = sigFilter h → SlotJudged s (becomeLost s i) (slotFilterLoaded h) False 0 ∧
        SlotJudged s (becomeLost s i) (slotFilterBlocked h) False 0) := by
  rcases pressure with rfl | rfl
  · obtain ⟨lost, airflow⟩ := ductLost_event s h
    exact ⟨lost, fun _ => airflow, fun e => absurd e (sigDuct_ne_sigFilter h)⟩
  · obtain ⟨lost, slots⟩ := filterLost_event s h
    exact ⟨lost, fun e => absurd e.symm (sigDuct_ne_sigFilter h), fun _ => slots⟩

/-! ### The debounce timer after every event (R138) -/

/-- A debounce timer that runs was running, or has started now. -/
def DebounceKept (now : Time) (y x : Hood) : Prop :=
  ∀ d, x.debounce = some d → d.start = now ∨ y.debounce = some d

theorem aired_debounceKept {now : Time} {live : Bool} {y x : Hood} (h : DebounceKept now y x) :
    DebounceKept now y (aired now live x) := by
  obtain ⟨o, e, started⟩ := aired_eq now live x
  rw [e]
  exact fun d hd => (started d hd).elim .inl (h d)

theorem judged_debounceKept (s : State) (h : HoodId) (y : Hood) : HoodLaw s h (DebounceKept s.now y) := by
  intro u core kept
  have now : u.now = s.now := core_now core
  have set : DebounceKept s.now y (required u.now (levelOf u h) (activeExtraction u h) (getHood u h)) := by
    unfold DebounceKept; rw [required_debounce]; exact kept
  unfold DebounceKept judged
  simp only [counted_debounce]
  rw [now] at set ⊢
  exact aired_debounceKept set

/-- The table of R138: where the timer runs, and toward what. -/
theorem aired_table {now : Time} {live : Bool} {x : Hood} {r : Nat} (hr : x.requirement = some r) :
    let z := aired now live x
    let low := x.airflow.getD 0 < r
    (live = false → low → x.graceFrom = none → ∃ d, z.debounce = some d ∧ d.towardLow = true) ∧
      (live = false → ¬ low ∨ x.graceFrom ≠ none → z.debounce = none) ∧
      (live = true → ¬ low → ∃ d, z.debounce = some d ∧ d.towardLow = false) ∧
      (live = true → low → z.debounce = none) := by
  intro z low
  have isLow : x.low = decide low := by unfold Hood.low; rw [hr]
  have toward (b : Bool) : ∃ d, (x.timeToward now b).debounce = some d ∧ d.towardLow = b := by
    obtain ⟨d, e, way, -⟩ := timeToward_eq now b x
    exact ⟨d, by rw [e], way⟩
  have shape : z = if live then (if x.low then { x with debounce := none } else x.timeToward now false)
      else if x.low && x.graceFrom.isNone then x.timeToward now true else { x with debounce := none } :=
    if_neg (by rw [hr]; exact Bool.false_ne_true)
  rw [shape, isLow]
  refine ⟨fun no hl grace => ?_, fun no hl => ?_, fun yes hl => ?_, fun yes hl => ?_⟩
  · rw [no, grace]; simpa [hl] using toward true
  · have off : (decide low && x.graceFrom.isNone) = false := by
      rcases hl with hl | grace
      · simp [hl]
      · cases hg : x.graceFrom with
        | none => exact absurd hg grace
        | some t => simp
    rw [no, off]; rfl
  · rw [yes]; simpa [hl] using toward false
  · rw [yes]; simp [hl]

/-! ### Requirement, fan and grace (R136, R137) -/

/-- The grace timer has started now, or is as it was with neither requirement nor fan risen. -/
def GraceKept (now : Time) (y x : Hood) : Prop :=
  x.graceFrom = some now ∨
    (x.graceFrom = y.graceFrom ∧ x.requirement.getD 0 ≤ y.requirement.getD 0 ∧ x.fan ≤ y.fan)

theorem required_graceKept {now : Time} {lvl : HoodLevel} {entry : Option ExtractionEntry} {y x : Hood}
    (h : GraceKept now y x) : GraceKept now y (required now lvl entry x) := by
  unfold GraceKept required at *
  cases entry with
  | none => exact h.imp_right fun ⟨same, _, _⟩ => ⟨same, Nat.zero_le _, Nat.zero_le _⟩
  | some e =>
    simp only [Option.getD_some]
    by_cases rise : x.requirement.getD 0 < reqAt e lvl ∨ x.fan < fanAt e lvl
    · exact .inl (if_pos rise)
    · rw [if_neg rise]
      obtain ⟨req, fan⟩ := not_or.mp rise
      exact h.imp_right fun ⟨same, hr, hf⟩ => ⟨same, (not_lt.mp req).trans hr, (not_lt.mp fan).trans hf⟩

theorem judged_graceKept (s : State) (h : HoodId) (y : Hood) : HoodLaw s h (GraceKept s.now y) := by
  intro u core kept
  have set := required_graceKept (lvl := levelOf u h) (entry := activeExtraction u h) kept
  rw [← core_now core] at set ⊢
  unfold GraceKept judged at *
  simp only [counted_graceFrom, counted_requirement, counted_fan, aired_graceFrom, aired_requirement, aired_fan]
  exact set

/-! ### Counting (R143, R144) -/

/-- The accumulator and hours of x are those of y. -/
def SameCount (y x : Hood) : Prop := x.accumulator = y.accumulator ∧ x.hours = y.hours

/-- A filter that counted since t counts still, or its time run has been accounted. -/
def CountKept (now t : Time) (y x : Hood) : Prop :=
  (x.runningSince = some t ∧ SameCount y x) ∨
    ((x.runningSince = none ∨ x.runningSince = some now) ∧ SameCount (accounted now t y) x)

/-- A filter that did not count has not counted time. -/
def CountFresh (now : Time) (y x : Hood) : Prop :=
  (x.runningSince = none ∨ x.runningSince = some now) ∧ SameCount y x

/-- Time run since now is none. -/
theorem accounted_now {now : Time} {x : Hood} (h : x.accumulator < Config.tenthHour) :
    SameCount x (accounted now now x) := by
  unfold SameCount accounted
  simp only [elapsed_self, Nat.add_zero, Nat.mod_eq_of_lt h, Nat.div_eq_of_lt h, withTenths_zero, and_self]

theorem accounted_congr {now t : Time} {y x : Hood} (h : SameCount y x) :
    SameCount (accounted now t y) (accounted now t x) := by
  unfold SameCount accounted at *
  simp only [h.1, h.2, and_self]

theorem accounted_bound (now t : Time) (x : Hood) : (accounted now t x).accumulator < Config.tenthHour :=
  Nat.mod_lt _ (by decide)

theorem counted_begins (now : Time) {x : Hood} (h : x.runningSince = none) :
    counted now true x = { x with runningSince := some now } := by
  unfold counted; rw [h]

theorem counted_ends (now : Time) {x : Hood} {t : Time} (h : x.runningSince = some t) :
    counted now false x = { accounted now t x with runningSince := none } := by
  unfold counted; rw [h]

theorem counted_still (now : Time) {c : Bool} {x : Hood} (h : x.runningSince.isSome = c) :
    counted now c x = x := by
  subst h
  unfold counted
  cases x.runningSince <;> rfl

theorem counted_fresh {now : Time} {c : Bool} {y x : Hood} (bound : y.accumulator < Config.tenthHour)
    (h : CountFresh now y x) : CountFresh now y (counted now c x) := by
  obtain ⟨since, same⟩ := h
  cases hr : x.runningSince with
  | none =>
    cases c with
    | true => rw [counted_begins now hr]; exact ⟨.inr rfl, same⟩
    | false => rw [counted_still now (by rw [hr]; rfl)]; exact ⟨since, same⟩
  | some t =>
    cases c with
    | true => rw [counted_still now (by rw [hr]; rfl)]; exact ⟨since, same⟩
    | false =>
      have e : t = now := by
        rw [hr] at since
        rcases since with no | e
        · cases no
        · exact Option.some.inj e
      obtain ⟨acc, hours⟩ := accounted_now (now := now) (x := x) (by rw [same.1]; exact bound)
      rw [counted_ends now hr, e]
      exact ⟨.inl rfl, acc.trans same.1, hours.trans same.2⟩

theorem counted_kept {now t : Time} {c : Bool} {y x : Hood} (h : CountKept now t y x) :
    CountKept now t y (counted now c x) := by
  rcases h with ⟨since, same⟩ | fresh
  · cases c with
    | true => rw [counted_still now (by rw [since]; rfl)]; exact .inl ⟨since, same⟩
    | false => rw [counted_ends now since]; exact .inr ⟨.inl rfl, accounted_congr same⟩
  · exact .inr (counted_fresh (accounted_bound now t y) fresh)

/-- A judgement changes runningSince, accumulator and hours by counting alone. -/
theorem judged_count (u : State) (h : HoodId) : ∃ (c : Bool) (x : Hood), judged u h = counted u.now c x ∧
    x.runningSince = (getHood u h).runningSince ∧ SameCount (getHood u h) x := by
  refine ⟨_, _, rfl, ?_, ?_, ?_⟩
  · rw [aired_runningSince, required_runningSince]
  · rw [aired_accumulator, required_accumulator]
  · rw [aired_hours, required_hours]

theorem judged_countKept (s : State) (h : HoodId) (t : Time) (y : Hood) : HoodLaw s h (CountKept s.now t y) := by
  intro u core kept
  obtain ⟨c, x, e, since, acc, hours⟩ := judged_count u h
  rw [e, core_now core]
  refine counted_kept ?_
  unfold CountKept SameCount at *
  rwa [since, acc, hours]

theorem judged_countFresh (s : State) (h : HoodId) {y : Hood} (bound : y.accumulator < Config.tenthHour) :
    HoodLaw s h (CountFresh s.now y) := by
  intro u core kept
  obtain ⟨c, x, e, since, acc, hours⟩ := judged_count u h
  rw [e, core_now core]
  refine counted_fresh bound ?_
  unfold CountFresh SameCount at *
  rwa [since, acc, hours]

end Sys2Proof.SelectiveFluxing
end

section
/-! SUPPORT. O40: the samples, the loss, and a hood after every event. -/

namespace Sys2Proof.SelectiveFluxing

open Sys2Proof.Machine Sys2Proof.Safety

/-! ### What a judgement sets -/

theorem activeExtraction_congr {s t : State} (h : t.core = s.core) (k : HoodId) :
    activeExtraction t k = activeExtraction s k := by
  unfold activeExtraction; rw [core_tbs h]

theorem judged_level (u : State) (h : HoodId) : (judged u h).level = levelOf u h := by
  unfold judged; simp only [counted_level, aired_level, required_level]

theorem judged_uncommitted {u : State} {h : HoodId} (no : activeExtraction u h = none) :
    (judged u h).requirement = none ∧ (judged u h).fan = 0 := by
  unfold judged
  simp only [counted_requirement, counted_fan, aired_requirement, aired_fan, no]
  exact ⟨rfl, rfl⟩

theorem judged_committed {u : State} {h : HoodId} {e : ExtractionEntry} (he : activeExtraction u h = some e) :
    (judged u h).requirement = some (reqAt e (judged u h).level) ∧
      (judged u h).fan = fanAt e (judged u h).level := by
  rw [judged_level]
  unfold judged
  simp only [counted_requirement, counted_fan, aired_requirement, aired_fan, he]
  exact ⟨rfl, rfl⟩

theorem judged_running (u : State) (h : HoodId) : (judged u h).runningSince ≠ none ↔
    0 < (judged u h).fan ∧ ¬ fanState u h = .stopped := by
  unfold judged
  simp only [counted_running, counted_fan, Bool.and_eq_true, decide_eq_true_eq, ne_eq]

/-! ### The debounce timer (R138) -/

theorem judged_debounce {u : State} {h : HoodId} {e : ExtractionEntry} (he : activeExtraction u h = some e) :
    let x := judged u h
    let live := isLive u (slotExtractLow h)
    ∃ r, x.requirement = some r ∧
      let low := x.airflow.getD 0 < r
      (live = false → low → x.graceFrom = none → ∃ d, x.debounce = some d ∧ d.towardLow = true) ∧
      (live = false → ¬ low ∨ x.graceFrom ≠ none → x.debounce = none) ∧
      (live = true → ¬ low → ∃ d, x.debounce = some d ∧ d.towardLow = false) ∧
      (live = true → low → x.debounce = none) := by
  intro x live
  let w := required u.now (levelOf u h) (activeExtraction u h) (getHood u h)
  have requirement : w.requirement = some (reqAt e (levelOf u h)) := by
    simp only [w, he]; rfl
  have table := aired_table (now := u.now) (live := live) requirement
  have shape : ∃ c, x = counted u.now c (aired u.now live w) := ⟨_, rfl⟩
  obtain ⟨c, shape⟩ := shape
  rw [shape]
  simp only [counted_requirement, counted_airflow, counted_graceFrom, counted_debounce, aired_requirement,
    aired_airflow, aired_graceFrom]
  exact ⟨_, requirement, table⟩

theorem settle_debounce {s : State} {h : HoodId} {e : ExtractionEntry} (he : activeExtraction s h = some e) :
    let x := getHood (settle s) h
    let live := s.ilu.slots[slotExtractLow h].live = true
    ∃ r, x.requirement = some r ∧
      let low := x.airflow.getD 0 < r
      (¬ live → low → x.graceFrom = none → ∃ d, x.debounce = some d ∧ d.towardLow = true) ∧
      (¬ live → ¬ low ∨ x.graceFrom ≠ none → x.debounce = none) ∧
      (live → ¬ low → ∃ d, x.debounce = some d ∧ d.towardLow = false) ∧
      (live → low → x.debounce = none) ∧
      ∀ d, x.debounce = some d → d.start = s.now ∨ (getHood s h).debounce = some d := by
  obtain ⟨u, core, -, kept, after⟩ :=
    settle_hood (judged_debounceKept s h (getHood s h)) fun d hd => .inr hd
  have now_kept := judged_debounceKept s h (getHood s h) u core kept
  have live : isLive u (slotExtractLow h) = s.ilu.slots[slotExtractLow h].live := by
    unfold isLive
    exact congrArg AlarmSlot.live (core_slot core (slotExtractLow h) (extractLow_kept h))
  obtain ⟨r, requirement, toLow, stops, toOk, rests⟩ := judged_debounce ((activeExtraction_congr core h).trans he)
  rw [live] at toLow stops toOk rests
  rw [after]
  simp only [Bool.not_eq_true]
  exact ⟨r, requirement, toLow, stops, toOk, rests, now_kept⟩

/-! ### Levels (R134, R135) -/

theorem levelOf_hoodP (s : State) : (levelOf s hoodP = .least ∨ levelOf s hoodP = .full) ∧
    (levelOf s hoodP = .least ↔ (classOf s sigPA = .usable ∨ classOf s sigPB = .usable) ∧
      ∃ v e u, (getLoop s loopP).pv = some v ∧ activeExtraction s hoodP = some e ∧
        e.hotThreshold = some u ∧ v < u) := by
  unfold levelOf
  rw [if_neg (show hoodP ≠ hoodF by decide)]
  cases (getLoop s loopP).pv with
  | none => simp
  | some v =>
    cases activeExtraction s hoodP with
    | none => simp
    | some e =>
      cases he : e.hotThreshold with
      | none => simp [he]
      | some u =>
        have cool : ((classOf s sigPA = .usable ∨ classOf s sigPB = .usable) ∧
            ∃ w x y, some v = some w ∧ some e = some x ∧ x.hotThreshold = some y ∧ w < y) ↔
            v < u ∧ (classOf s sigPA = .usable ∨ classOf s sigPB = .usable) := by
          simp [he, and_comm]
        rw [cool]
        simp only [he]
        split
        · next c => exact ⟨.inl rfl, iff_of_true rfl c⟩
        · next c => exact ⟨.inr rfl, iff_of_false (by decide) c⟩

theorem settle_levelF (s : State) :
    let x := getHood (settle s) hoodF
    let fluxing := (∃ b ∈ s.trk.queue, b.windows.spray = .opened) ∨
      (∃ n : NozzleId, (getNozzle (settle s) n).valve ≠ none) ∨ (settle s).flx.dwellFrom ≠ none
    (fluxing → x.level = .full) ∧ (¬ fluxing → s.mdc.mode = .run → x.level = .reduced) ∧
      (¬ fluxing → s.mdc.mode ≠ .run → x.level = .least) := by
  intro x fluxing
  have active : (settle s).flx.fluxing = true ↔ fluxing := settle_fluxing_iff s
  obtain ⟨u, core, flx, level⟩ := settle_level s hoodF
  have e : x.level = if (settle s).flx.fluxing then .full else if s.mdc.mode = .run then .reduced else .least := by
    rw [level, levelOf_hoodF, flx, core_mdc core]
  rw [e]
  refine ⟨fun yes => if_pos (active.mpr yes), fun no run => ?_, fun no away => ?_⟩
  · rw [if_neg fun c => no (active.mp c), if_pos run]
  · rw [if_neg fun c => no (active.mp c), if_neg away]

theorem settle_levelP (s : State) :
    let x := getHood (settle s) hoodP
    let usable (i : SignalId) : Prop := (signal s i).state = .valid ∨ (signal s i).state = .held
    let cool := (usable sigPA ∨ usable sigPB) ∧ ∃ v e u, (getLoop s loopP).pv = some v ∧
      activeExtraction s hoodP = some e ∧ e.hotThreshold = some u ∧ v < u
    (cool → x.level = .least) ∧ (¬ cool → x.level = .full) := by
  intro x usable cool
  obtain ⟨u, core, -, level⟩ := settle_level s hoodP
  obtain ⟨either, least⟩ := levelOf_hoodP u
  have pv : (getLoop u loopP).pv = (getLoop s loopP).pv := (loopKept_of_core core loopP).2.2.1
  have class_kept (i : SignalId) : classOf u i = .usable ↔ usable i := by
    rw [classOf_eq_usable]; unfold signal; rw [core_lnk core]; rfl
  rw [class_kept, class_kept, pv, activeExtraction_congr core] at least
  have e : x.level = levelOf u hoodP := level
  rw [e]
  exact ⟨least.mpr, fun no => either.resolve_left fun c => no (least.mp c)⟩

/-! ### Requirement, fan and grace (R136, R137) -/

theorem settle_requirement (s : State) (h : HoodId) :
    let x := getHood (settle s) h
    let y := getHood s h
    (activeExtraction s h = none → x.requirement = none ∧ x.fan = 0) ∧
    (∀ e, activeExtraction s h = some e →
      (x.level = .full → x.requirement = some e.reqFull ∧ x.fan = e.fanFull) ∧
      (x.level = .least → x.requirement = some e.reqLeast ∧ x.fan = e.fanLeast) ∧
      (∀ r f, x.level = .reduced → e.reqReduced = some r → e.fanReduced = some f →
        x.requirement = some r ∧ x.fan = f) ∧
      (y.requirement.getD 0 < x.requirement.getD 0 ∨ y.fan < x.fan → x.graceFrom = some s.now)) ∧
    (x.graceFrom = y.graceFrom ∨ x.graceFrom = some s.now) := by
  intro x y
  obtain ⟨u, core, -, kept, after⟩ :=
    settle_hood (judged_graceKept s h y) (.inr ⟨rfl, Nat.le_refl _, Nat.le_refl _⟩)
  have grace : GraceKept s.now y x := by
    have k := judged_graceKept s h y u core kept
    rwa [← after] at k
  have entry := activeExtraction_congr core h
  refine ⟨fun no => ?_, fun e he => ?_, ?_⟩
  · have k := judged_uncommitted (entry.trans no)
    rwa [← after] at k
  · have k := judged_committed (entry.trans he)
    rw [← after] at k
    obtain ⟨req, fan⟩ := k
    refine ⟨fun full => ?_, fun least => ?_, fun r f reduced hr hf => ?_, fun rise => ?_⟩
    · rw [full] at req fan; exact ⟨req, fan⟩
    · rw [least] at req fan; exact ⟨req, fan⟩
    · rw [reduced] at req fan
      simp only [reqAt, fanAt, hr, hf, Option.getD_some] at req fan
      exact ⟨req, fan⟩
    · rcases grace with started | ⟨-, req, fan⟩
      · exact started
      · rcases rise with more | more
        · exact absurd req (not_le.mpr more)
        · exact absurd fan (not_le.mpr more)
  · rcases grace with started | ⟨same, -⟩
    · exact .inr started
    · exact .inl same

/-! ### Counting (R143, R144) -/

/-- The fan of a hood after an event turns, or is not supervised. -/
theorem settle_running (s : State) (h : HoodId) : (getHood (settle s) h).runningSince ≠ none ↔
    0 < (getHood (settle s) h).fan ∧ ¬ fanState s h = .stopped := by
  obtain ⟨u, core, -, -, after⟩ :=
    settle_hood (s := s) (h := h) (P := fun _ => True) (fun _ _ _ => trivial) trivial
  rw [after, judged_running, fanState_congr (core_lnk core) (core_tbs core)]

theorem settle_countKept {s : State} {h : HoodId} {t : Time} (since : (getHood s h).runningSince = some t) :
    CountKept s.now t (getHood s h) (getHood (settle s) h) := by
  obtain ⟨u, core, -, kept, after⟩ :=
    settle_hood (judged_countKept s h t (getHood s h)) (.inl ⟨since, rfl, rfl⟩)
  rw [after]
  exact judged_countKept s h t (getHood s h) u core kept

/-- The start of counting needs no bound on the accumulator. -/
theorem settle_started {s : State} {h : HoodId} (since : (getHood s h).runningSince = none) :
    (getHood (settle s) h).runningSince = none ∨ (getHood (settle s) h).runningSince = some s.now := by
  have law : HoodLaw s h fun x => x.runningSince = none ∨ x.runningSince = some s.now := by
    intro u core kept
    obtain ⟨c, x, e, same, -⟩ := judged_count u h
    rw [e, core_now core]
    rw [← same] at kept
    unfold counted
    split
    · exact .inr rfl
    · exact .inl rfl
    · exact kept
  obtain ⟨u, core, -, kept, after⟩ := settle_hood law (.inl since)
  rw [after]
  exact law u core kept

theorem settle_countFresh {s : State} {h : HoodId} (since : (getHood s h).runningSince = none)
    (bound : (getHood s h).accumulator < Config.tenthHour) : SameCount (getHood s h) (getHood (settle s) h) := by
  have law := judged_countFresh s h (y := getHood s h) bound
  obtain ⟨u, core, -, kept, after⟩ := settle_hood law ⟨.inl since, rfl, rfl⟩
  rw [after]
  exact (law u core kept).2

/-- Time accounted, in the words of R144. -/
theorem accounted_iff {now t : Time} {y x : Hood} (h : SameCount (accounted now t y) x) :
    let total := y.accumulator + elapsed now t
    x.accumulator = total % 360000 ∧ (total < 360000 → x.hours = y.hours) ∧
      (360000 ≤ total → x.hours = min 4294967295 (y.hours + total / 360000)) := by
  intro total
  obtain ⟨acc, hours⟩ := h
  have hours : x.hours = withTenths (total / 360000) y.hours := hours
  refine ⟨acc, fun small => ?_, fun large => ?_⟩
  · rw [hours, Nat.div_eq_of_lt small, withTenths_zero]
  · rw [hours]; exact if_neg (Nat.div_pos large (by decide)).ne'

theorem settle_counting (s : State) (h : HoodId) :
    let x := getHood (settle s) h
    let y := getHood s h
    let counts := 0 < x.fan ∧ ¬ fanState s h = .stopped
    (x.runningSince ≠ none ↔ counts) ∧
    (counts → y.runningSince = none → x.runningSince = some s.now) ∧
    (∀ t0, y.runningSince = some t0 →
      let total := y.accumulator + elapsed s.now t0
      let accounted := x.accumulator = total % 360000 ∧
        (total < 360000 → x.hours = y.hours) ∧
        (360000 ≤ total → x.hours = min 4294967295 (y.hours + total / 360000))
      (¬ counts → accounted) ∧
      (counts → (x.runningSince = some t0 ∧ x.accumulator = y.accumulator ∧ x.hours = y.hours) ∨
        (x.runningSince = some s.now ∧ accounted))) ∧
    (y.runningSince = none → y.accumulator < 360000 →
      x.accumulator = y.accumulator ∧ x.hours = y.hours) := by
  intro x y counts
  have running : x.runningSince ≠ none ↔ counts := settle_running s h
  refine ⟨running, fun yes none_before => ?_, fun t0 since => ?_, settle_countFresh⟩
  · exact (settle_started none_before).resolve_left (running.mpr yes)
  · rcases settle_countKept since with ⟨still, same⟩ | ⟨ended, paid⟩
    · have goes : x.runningSince = some t0 := still
      exact ⟨fun no => absurd (running.mp (by rw [goes]; exact Option.some_ne_none t0)) no,
        fun _ => .inl ⟨goes, same⟩⟩
    · exact ⟨fun _ => accounted_iff paid,
        fun yes => .inr ⟨ended.resolve_left (running.mpr yes), accounted_iff paid⟩⟩

/-! ### The statement -/

/-- The fan's state in the words of R143. -/
theorem fanStopped_iff {s : State} {h : HoodId} :
    let usable (i : SignalId) : Prop := (signal s i).state = .valid ∨ (signal s i).state = .held
    fanState s h = .stopped ↔ (∃ v, usable (sigFan h) ∧ (signal s (sigFan h)).value = some v ∧ v < 50) ∨
      ((∀ v, usable (sigFan h) → (signal s (sigFan h)).value ≠ some v) ∧ mapped s (sigFan h) = true) := by
  rw [fanState_eq_stopped]
  simp only [Reads, not_and, and_assoc, ne_eq]

/-- Settles O40: the samples by their owner's part alone, the rest of a hood by its last judgement in
`settle` and the laws that every judgement keeps. -/
theorem extractionSamples : Obligations.ExtractionSamples := by
  unfold Obligations.ExtractionSamples
  refine ⟨fun s h v seq p _ => ?_, fun s h i t0 m lost run pressure held fresh entry hasLost due => ?_,
    fun s h e he => settle_debounce he, fun s h => ?_⟩
  · intro t u frame
    have framed {x : State} {ks : List SlotId} (k : SampleFrame s x ks) : frame x ks :=
      ⟨k.trk, k.loops, k.pot, k.faults, k.lockout, k.slots, k.lockoutFrom⟩
    obtain ⟨ductSampled, ductFrame, others, uncommitted, committed⟩ :=
      ductSample_event (s := s) (t := t) (h := h) (v := v) (seq := seq) (p := p) rfl
    obtain ⟨filterSampled, filterFrame, airflow, unjudged, judged⟩ :=
      filterSample_event (s := s) (t := u) (h := h) (v := v) (seq := seq) (p := p) rfl
    refine ⟨ductSampled, framed ductFrame, others, uncommitted, fun small e he => ?_, filterSampled,
      framed filterFrame, airflow, unjudged, judged⟩
    obtain ⟨r, low, high, flow⟩ := airflowOf_root small e.kf
    exact ⟨r, low, high, by rw [committed e he, flow]⟩
  · exact ⟨becomeLost s i, by rw [exec_lostTime run, ifDue_true (lostDue_of held fresh entry hasLost due)],
      pressure_lost h pressure⟩
  · intro t x y usable fluxing cool stopped counts
    have stopped_iff : fanState s h = .stopped ↔ stopped := fanStopped_iff
    obtain ⟨running, begins, ends, idle⟩ := settle_counting s h
    obtain ⟨uncommitted, committed, grace⟩ := settle_requirement s h
    rw [stopped_iff] at running begins
    simp only [stopped_iff] at ends
    exact ⟨fun e => by subst e; exact settle_levelF s, fun e => by subst e; exact settle_levelP s,
      uncommitted, committed, grace, running, begins, ends, idle⟩

end Sys2Proof.SelectiveFluxing
end

section
/-! SUPPORT. The rules of LPU's operations: what composing the setpoints, judging the band, the law, the window and
a change of loop state make of a loop, and the loops after `settle` (R67, R74 to R76, R78, R82, R84, R85). -/

namespace Sys2Proof.PreheatLoops

open Sys2Proof.Machine Sys2Proof.Safety Sys2Proof.SelectiveFluxing

/-! ### The loops -/

theorem loop_cases (l : LoopId) : (∃ k : ZoneId, l = zoneLoop k) ∨ l = loopP := by revert l; decide

theorem zoneLoop_ne_loopP (k : ZoneId) : zoneLoop k ≠ loopP := by revert k; decide

theorem getLoop_of_lpu {s t : State} (h : t.lpu = s.lpu) (l : LoopId) : getLoop t l = getLoop s l := by
  unfold getLoop; rw [h]

theorem activeLoop_of_tbs {s t : State} (h : t.tbs = s.tbs) (l : LoopId) : activeLoop t l = activeLoop s l := by
  unfold activeLoop; rw [h]

theorem activeGate_of_tbs {s t : State} (h : t.tbs = s.tbs) (g : GateId) : activeGate t g = activeGate s g := by
  unfold activeGate; rw [h]

theorem activePot_of_tbs {s t : State} (h : t.tbs = s.tbs) : activePot t = activePot s := by
  unfold activePot; rw [h]

theorem hardMax_of_limits {s t : State} (h : t.lst.limits = s.lst.limits) (l : LoopId) :
    hardMax t l = hardMax s l := by
  unfold hardMax; rw [h]

/-- The clamp of the model is that of the statements (R75). -/
theorem clampSetpoint_eq (s : State) (l : LoopId) (x : Int) : clampSetpoint s l x = clamped s l x := by
  unfold clampSetpoint clamped; split <;> simp [*]

theorem clampSetpoint_le {s : State} {l : LoopId} {x m : Int} (h : hardMax s l = some m) :
    clampSetpoint s l x ≤ m - 50 := by
  unfold clampSetpoint; rw [h]; exact min_le_right _ _

/-! ### Composing a setpoint (R74 to R76) -/

/-- Effective setpoint, controlling board's tag and feed-forward of a loop (R75). -/
def setpointOf (s : State) (l : LoopId) : Option Int × Option Nat × Nat :=
  if h : l.val < 6 then composeZone s ⟨l.val, h⟩ else (composePot s, none, 0)

theorem setpointOf_zone (s : State) (k : ZoneId) : setpointOf s (zoneLoop k) = composeZone s k := by
  unfold setpointOf; rw [dif_pos (show (zoneLoop k).val < 6 from k.isLt)]; rfl

/-- A loop with its setpoint, controlling board and feed-forward composed in a state. -/
def composed (s : State) (l : LoopId) (x : Loop) : Loop :=
  { x with setpoint := (setpointOf s l).1, controller := (setpointOf s l).2.1, ff := (setpointOf s l).2.2 }

theorem compose_eq (s : State) (l : LoopId) : compose s l = updLoop s l (composed s l) := by
  unfold compose composed setpointOf; split <;> rfl

/-- What composing reads. -/
theorem setpointOf_congr {s t : State} (trk : t.trk = s.trk) (tbs : t.tbs = s.tbs)
    (limits : t.lst.limits = s.lst.limits) (pot : t.pot.state = .setback ↔ s.pot.state = .setback)
    (l : LoopId) : setpointOf t l = setpointOf s l := by
  unfold setpointOf composeZone controllingBoard ownSetpoint composePot runSetpoint clampSetpoint hardMax
    boardRecipe activeRecipe activeLoop activePot
  rw [trk, tbs, limits]
  simp only [pot]

theorem composed_congr {s t : State} {l : LoopId} (h : setpointOf t l = setpointOf s l) (x : Loop) :
    composed t l x = composed s l x := by
  unfold composed; rw [h]

theorem composed_of_core {s t : State} (h : t.core = s.core) (l : LoopId) (x : Loop) :
    composed t l x = composed s l x :=
  composed_congr (setpointOf_congr (core_trk h) (core_tbs h) (core_limits h) (by rw [core_potState h]) l) x

theorem ownSetpoint_le {s : State} {r : Option Recipe} {k : ZoneId} {sp m : Int}
    (h : ownSetpoint s r k = some sp) (hm : hardMax s (zoneLoop k) = some m) : sp ≤ m - 50 := by
  unfold ownSetpoint at h
  obtain ⟨x, -, rfl⟩ := Option.map_eq_some_iff.mp h
  exact clampSetpoint_le hm

theorem composePot_le {s : State} {sp m : Int} (h : composePot s = some sp) (hm : hardMax s loopP = some m) :
    sp ≤ m - 50 := by
  unfold composePot runSetpoint at h
  split at h
  all_goals
    obtain ⟨x, -, rfl⟩ := Option.map_eq_some_iff.mp h
    exact clampSetpoint_le hm

/-- A setpoint just composed stands 5.0 °C below the hard maximum (R75). -/
theorem composed_le {s : State} {l : LoopId} {x : Loop} {sp m : Int} (h : (composed s l x).setpoint = some sp)
    (hm : hardMax s l = some m) : sp ≤ m - 50 := by
  rcases loop_cases l with ⟨k, rfl⟩ | rfl
  · have h : (setpointOf s (zoneLoop k)).1 = some sp := h
    rw [setpointOf_zone] at h
    unfold composeZone at h
    simp only at h
    split at h
    · exact ownSetpoint_le h hm
    · cases h
  · exact composePot_le h hm

/-! ### The band (R84, R85) -/

/-- The condition of R84 on a loop and its active entry. -/
def bandHolds (x : Loop) (e : Option LoopEntry) : Bool :=
  match x.mode, x.pv, x.setpoint, e with
  | .active, some pv, some sp, some e => decide (|pv - sp| ≤ e.band)
  | _, _, _, _ => false

theorem inBandNow_eq (s : State) (l : LoopId) : inBandNow s l = bandHolds (getLoop s l) (activeLoop s l) := rfl

theorem bandHolds_iff {x : Loop} {e : Option LoopEntry} : bandHolds x e = true ↔
    x.mode = .active ∧ ∃ pv sp a, x.pv = some pv ∧ x.setpoint = some sp ∧ e = some a ∧ |pv - sp| ≤ a.band := by
  unfold bandHolds
  cases x.mode <;> cases x.pv <;> cases x.setpoint <;> cases e <;> simp

/-- A loop after the judgement of its band (R85). -/
def banded (now : Time) (holds : Bool) (x : Loop) : Loop :=
  if holds then (if x.inBand then x else { x with inBand := true, settleFrom := some now })
  else { x with inBand := false, settleFrom := none, settled := false }

theorem judgeBand_eq (s : State) (l : LoopId) : judgeBand s l = updLoop s l (banded s.now (inBandNow s l)) := rfl

section
variable (now : Time) (c : Bool) (x : Loop)
@[simp] theorem banded_mode : (banded now c x).mode = x.mode := by unfold banded; split <;> [split <;> rfl; rfl]
@[simp] theorem banded_causes : (banded now c x).causes = x.causes := by unfold banded; split <;> [split <;> rfl; rfl]
@[simp] theorem banded_setpoint : (banded now c x).setpoint = x.setpoint := by
  unfold banded; split <;> [split <;> rfl; rfl]
@[simp] theorem banded_controller : (banded now c x).controller = x.controller := by
  unfold banded; split <;> [split <;> rfl; rfl]
@[simp] theorem banded_ff : (banded now c x).ff = x.ff := by unfold banded; split <;> [split <;> rfl; rfl]
@[simp] theorem banded_pv : (banded now c x).pv = x.pv := by unfold banded; split <;> [split <;> rfl; rfl]
@[simp] theorem banded_integral : (banded now c x).integral = x.integral := by
  unfold banded; split <;> [split <;> rfl; rfl]
@[simp] theorem banded_demand : (banded now c x).demand = x.demand := by
  unfold banded; split <;> [split <;> rfl; rfl]
@[simp] theorem banded_window : (banded now c x).window = x.window := by
  unfold banded; split <;> [split <;> rfl; rfl]
@[simp] theorem banded_inBand : (banded now c x).inBand = c := by
  cases c <;> unfold banded
  · rfl
  · cases h : x.inBand <;> simp [h]
theorem banded_banded : banded now c (banded now c x) = banded now c x := by
  cases c
  · rfl
  · unfold banded; cases h : x.inBand <;> simp [h]
end

/-! ### The loops after settle -/

/-- A loop with its setpoint composed and its band judged, in a state. -/
def recomposed (s : State) (l : LoopId) (x : Loop) : Loop :=
  banded s.now (bandHolds (composed s l x) (activeLoop s l)) (composed s l x)

theorem recomposed_of_core {s t : State} (h : t.core = s.core) (l : LoopId) (x : Loop) :
    recomposed t l x = recomposed s l x := by
  unfold recomposed
  rw [composed_of_core h, core_now h, activeLoop_of_tbs (core_tbs h)]

theorem composed_composed (s : State) (l : LoopId) (x : Loop) : composed s l (composed s l x) = composed s l x := rfl

theorem composed_banded (s : State) (l : LoopId) (now : Time) (c : Bool) (x : Loop) :
    composed s l (banded now c x) = banded now c (composed s l x) := by
  have same : (composed s l x).inBand = x.inBand := rfl
  unfold banded
  rw [same]
  cases c
  · rfl
  · cases x.inBand <;> rfl

theorem bandHolds_banded (now : Time) (c : Bool) (x : Loop) (e : Option LoopEntry) :
    bandHolds (banded now c x) e = bandHolds x e := by
  unfold bandHolds; simp only [banded_mode, banded_pv, banded_setpoint]

/-- The judgement of a loop comes to the same when it is repeated. -/
theorem recomposed_recomposed (s : State) (l : LoopId) (x : Loop) :
    recomposed s l (recomposed s l x) = recomposed s l x := by
  unfold recomposed
  rw [composed_banded, composed_composed, bandHolds_banded, banded_banded]

theorem judgeSensor_lpu (s : State) (l : LoopId) : (judgeSensor s l).lpu = s.lpu := judgeSlot_lpu _ _ _ _

theorem getLoop_judgeLoops (s : State) (l : LoopId) :
    getLoop (judgeLoops s) l = recomposed s l (getLoop s l) := by
  obtain ⟨u, core, own, e⟩ := foldl_own (fun u : State => getLoop u l) (fun u => u.core = s.core)
    (fun s l => judgeSensor (judgeBand (compose s l) l) l) l
    (fun u m hm => by
      rw [getLoop_of_lpu (judgeSensor_lpu _ _), judgeBand_eq, getLoop_updLoop_other _ _ _ _ (Ne.symm hm),
        compose_eq, getLoop_updLoop_other _ _ _ _ (Ne.symm hm)])
    (fun u m hu => by simpa using hu) nodup_allLoops (mem_allLoops l) (s := s) rfl
  refine e.trans ?_
  have loop : getLoop (compose u l) l = composed u l (getLoop u l) := by rw [compose_eq, getLoop_updLoop]
  rw [getLoop_of_lpu (judgeSensor_lpu _ _), judgeBand_eq, getLoop_updLoop, inBandNow_eq, loop,
    activeLoop_of_tbs (core_tbs (compose_core u l)), core_now (compose_core u l), ← own]
  exact recomposed_of_core core l _

theorem judgePermit_lpu (s : State) : (judgePermit s).lpu = s.lpu := by
  unfold judgePermit; simp only; split <;> rfl

theorem passStanding_lpu (s : State) : (passStanding s).lpu = s.lpu := by
  unfold passStanding; simp only; split
  · rw [inhibitNow_flxOnly]
  · rfl

theorem judgePot_lpu (s : State) : (judgePot s).lpu = s.lpu := by
  unfold judgePot
  obtain ⟨x, h | h⟩ := judgePump_beside (judgeTargets s) .chip <;>
  obtain ⟨y, k | k⟩ := judgePump_beside (judgePump (judgeTargets s) .chip) .main <;> rw [k, h] <;> rfl

theorem judgePressure_lpu (s : State) : (judgePressure s).lpu = s.lpu := by
  unfold judgePressure; split <;> simp

theorem judgeFlux_lpu (s : State) : (judgeFlux s).lpu = s.lpu := by
  unfold judgeFlux; rw [judgePressure_lpu, judgeBar_flxOnly]

theorem judgeHood_lpu (s : State) (h : HoodId) : (judgeHood s h).lpu = s.lpu := by
  unfold judgeHood judgeFan
  dsimp only
  rw [judgeCounting_exuOnly]
  dsimp only
  rw [judgeSlot_lpu, judgeAirflow_exuOnly]
  dsimp only
  rw [setRequirement_exuOnly]

theorem judgeExtraction_lpu (s : State) : (judgeExtraction s).lpu = s.lpu := by
  unfold judgeExtraction judgeService
  rw [judgeSlot_lpu, judgeHood_lpu, judgeHood_lpu]

theorem judgeSpeed_lpu (s : State) : (judgeSpeed s).lpu = s.lpu := by
  unfold judgeSpeed; split <;> simp

theorem getLoop_judgeRound (s : State) (l : LoopId) :
    getLoop (judgeRound s) l = recomposed s l (getLoop s l) := by
  have core : (judgePermit (passStanding s)).core = s.core := by simp
  unfold judgeRound
  rw [getLoop_of_lpu (judgeExtraction_lpu _), getLoop_of_lpu (judgeFlux_lpu _), getLoop_of_lpu (judgePot_lpu _),
    getLoop_judgeLoops, recomposed_of_core core, getLoop_of_lpu (judgePermit_lpu _),
    getLoop_of_lpu (passStanding_lpu _)]

/-- The loop is as it was in s, or as the judgements of s make it. -/
def LoopAwaits (s : State) (l : LoopId) (u : State) : Prop :=
  u.core = s.core ∧ (getLoop u l = getLoop s l ∨ getLoop u l = recomposed s l (getLoop s l))

theorem loopAwaits_judged {s u : State} {l : LoopId} (h : LoopAwaits s l u) :
    getLoop (judgeRound u) l = recomposed s l (getLoop s l) := by
  obtain ⟨core, h⟩ := h
  rw [getLoop_judgeRound, recomposed_of_core core]
  rcases h with h | h
  · rw [h]
  · rw [h, recomposed_recomposed]

theorem roundClosed_loop (s : State) (l : LoopId) : RoundClosed (LoopAwaits s l) where
  round h := ⟨(judgeRound_core _).trans h.1, .inr (loopAwaits_judged h)⟩
  speed h := ⟨(judgeSpeed_core _).trans h.1, by rw [getLoop_of_lpu (judgeSpeed_lpu _)]; exact h.2⟩

theorem getLoop_outputs (s : State) (l : LoopId) : getLoop (judgeAdmission (judgeOutputs s)) l = getLoop s l := rfl

theorem loop_of_ends {s t : State} {l : LoopId} (h : EndsFrom (LoopAwaits s l) t) :
    getLoop t l = recomposed s l (getLoop s l) := by
  obtain ⟨u, hu, rfl⟩ := h
  rw [getLoop_outputs, loopAwaits_judged hu]

/-- After every event each loop stands as one composing and one judgement of its band make it (R76, R85). -/
theorem getLoop_settle (s : State) (l : LoopId) : getLoop (settle s) l = recomposed s l (getLoop s l) :=
  loop_of_ends (settle_ends (roundClosed_loop s l) ⟨rfl, .inl rfl⟩)

theorem getLoop_settleSpeed (s : State) (l : LoopId) :
    getLoop (settleSpeed s) l = recomposed s l (getLoop s l) :=
  loop_of_ends (settleSpeed_ends (roundClosed_loop s l) ⟨rfl, .inl rfl⟩)

end Sys2Proof.PreheatLoops
end

section
/-! SUPPORT. The laws of the heat: credits and firing (R93, R95), setpoints (R75), integral and demand (R66). What
an operation keeps of them is an implication, and composes; the operations are taken unit by unit. -/

namespace Sys2Proof.PreheatLoops

open Sys2Proof.Machine Sys2Proof.Safety Sys2Proof.SelectiveFluxing

/-! ### What an operation keeps -/

/-- Every credit is bounded, and every gate fires by the law (R93, R95). -/
def FiresLawfully (s : State) : Prop := CreditsBounded s ∧ FiringLaw s

/-- An operation keeps the laws of firing and of integral and demand. -/
structure KeepsPower (s t : State) : Prop where
  firing : FiresLawfully s → FiresLawfully t
  demand : DemandLaw s → DemandLaw t

/-- An operation keeps these, and the law of the setpoints. -/
structure Keeps (s t : State) : Prop extends KeepsPower s t where
  setpoint : SetpointLaw s → SetpointLaw t

theorem KeepsPower.trans {s t u : State} (h : KeepsPower s t) (k : KeepsPower t u) : KeepsPower s u :=
  ⟨fun e => k.firing (h.firing e), fun e => k.demand (h.demand e)⟩

theorem Keeps.trans {s t u : State} (h : Keeps s t) (k : Keeps t u) : Keeps s u :=
  ⟨h.toKeepsPower.trans k.toKeepsPower, fun e => k.setpoint (h.setpoint e)⟩

theorem Keeps.refl (s : State) : Keeps s s := ⟨⟨id, id⟩, id⟩

theorem foldl_kept {α : Type} {f : State → α → State} (h : ∀ s a, Keeps s (f s a)) (l : List α) (s : State) :
    Keeps s (l.foldl f s) :=
  foldl_preserves (Keeps s) f (fun _ _ hs => hs.trans (h _ _)) l s (.refl s)

/-! ### What the laws read -/

/-- What the laws of the heat read of a state. -/
structure Heat where
  gates : Vector Gate 16
  permit : Bool
  gateTable : TableCopy Unit GateEntry 16
  loopTable : TableCopy Unit LoopEntry 7
  loops : Vector Loop 7
  limits : Option Limits
  lost : Bool × Bool × Bool

/-- The reading of a state. -/
def heat (s : State) : Heat where
  gates := s.fal.gates
  permit := s.ilu.permit
  gateTable := s.tbs.gate.active
  loopTable := s.tbs.loop.active
  loops := s.lpu.loops
  limits := s.lst.limits
  lost := (phaseLost s 0, phaseLost s 1, phaseLost s 2)

theorem heat_gates {s t : State} (h : heat t = heat s) : t.fal.gates = s.fal.gates := congrArg Heat.gates h
theorem heat_permit {s t : State} (h : heat t = heat s) : t.ilu.permit = s.ilu.permit := congrArg Heat.permit h
theorem heat_gateTable {s t : State} (h : heat t = heat s) : t.tbs.gate.active = s.tbs.gate.active :=
  congrArg Heat.gateTable h
theorem heat_loopTable {s t : State} (h : heat t = heat s) : t.tbs.loop.active = s.tbs.loop.active :=
  congrArg Heat.loopTable h
theorem heat_loops {s t : State} (h : heat t = heat s) : t.lpu.loops = s.lpu.loops := congrArg Heat.loops h
theorem heat_limits {s t : State} (h : heat t = heat s) : t.lst.limits = s.lst.limits := congrArg Heat.limits h

theorem heat_lost {s t : State} (h : (heat t).lost = (heat s).lost) (p : PhaseId) :
    t.ilu.slots[slotPhaseLost p].live = s.ilu.slots[slotPhaseLost p].live := by
  simp only [heat, Prod.mk.injEq] at h
  obtain ⟨a, b, c⟩ := h
  have cases3 : p = 0 ∨ p = 1 ∨ p = 2 := by revert p; decide
  rcases cases3 with rfl | rfl | rfl
  exacts [a, b, c]

/-! ### When the laws are kept -/

/-- The gates go down: no credit rises, and what fires fired before with its loop, its phase and PERMIT as they
were. -/
theorem firesLawfully_mono {s t : State} (table : t.tbs.gate.active = s.tbs.gate.active)
    (credit : ∀ g : GateId, t.fal.gates[g].credit ≤ s.fal.gates[g].credit)
    (fires : ∀ g : GateId, t.fal.gates[g].firing = true → s.fal.gates[g].firing = true ∧
      (s.ilu.permit = true → t.ilu.permit = true) ∧ ∀ e l p, activeGate s g = some e → e.loop = some l →
        e.phase = some p → ((getLoop s l).mode = .active → (getLoop t l).mode = .active) ∧
          (s.ilu.slots[slotPhaseLost p].live = false → t.ilu.slots[slotPhaseLost p].live = false))
    (h : FiresLawfully s) : FiresLawfully t := by
  obtain ⟨bound, law⟩ := h
  refine ⟨fun g => (credit g).trans (bound g), fun g hg => ?_⟩
  obtain ⟨was, permit, same⟩ := fires g hg
  obtain ⟨on, e, l, p, he, hl, hp, enabled, active, live⟩ := law g was
  obtain ⟨stays, clear⟩ := same e l p he hl hp
  have entry : activeGate t g = activeGate s g := by unfold activeGate Table.at; rw [table]
  exact ⟨permit on, e, l, p, entry.trans he, hl, hp, enabled, stays active, clear live⟩

/-- Integral and demand of a loop are within the ranges of its entry (R66). -/
def LoopInRange (e : LoopEntry) (x : Loop) : Prop := x.integral ≤ e.umax * 256 ∧ x.demand ≤ e.umax

theorem loopInRange_mono {e : LoopEntry} {x y : Loop} (integral : y.integral ≤ x.integral) (demand : y.demand ≤ x.demand)
    (h : LoopInRange e x) : LoopInRange e y :=
  ⟨integral.trans h.1, demand.trans h.2⟩

theorem demandLaw_mono {s t : State} (table : t.tbs.loop.active = s.tbs.loop.active)
    (loops : ∀ l e, activeLoop s l = some e → LoopInRange e (getLoop s l) → LoopInRange e (getLoop t l))
    (h : DemandLaw s) : DemandLaw t := by
  intro l e he
  have entry : activeLoop t l = activeLoop s l := by unfold activeLoop Table.at; rw [table]
  exact loops l e (entry.symm.trans he) (h l e (entry.symm.trans he))

theorem setpointLaw_mono {s t : State} (limits : t.lst.limits = s.lst.limits)
    (loops : ∀ l : LoopId, (getLoop t l).setpoint = (getLoop s l).setpoint ∨
      ∀ sp m, (getLoop t l).setpoint = some sp → hardMax t l = some m → sp ≤ m - 50)
    (h : SetpointLaw s) : SetpointLaw t := by
  intro l sp m hsp hm
  rcases loops l with same | below
  · exact h l sp m (same.symm.trans hsp) ((hardMax_of_limits limits l).symm.trans hm)
  · exact below sp m hsp hm

/-- What leaves all that the laws read keeps them. -/
theorem Keeps.of_heat {s t : State} (h : heat t = heat s) : Keeps s t where
  firing := firesLawfully_mono (heat_gateTable h) (fun g => by rw [heat_gates h]) fun g hg => by
    rw [heat_gates h] at hg
    refine ⟨hg, fun e => (heat_permit h).trans e, fun e l p _ _ _ => ⟨fun m => ?_, fun m => ?_⟩⟩
    · unfold getLoop; rw [heat_loops h]; exact m
    · exact (heat_lost (congrArg Heat.lost h) p).trans m
  demand := demandLaw_mono (heat_loopTable h) fun l _ _ w => by unfold getLoop; rw [heat_loops h]; exact w
  setpoint := setpointLaw_mono (heat_limits h) fun l => .inl (by unfold getLoop; rw [heat_loops h])

/-- New limits leave the laws of firing, integral and demand. -/
theorem KeepsPower.of_heat {s t : State} (h : { heat t with limits := none } = { heat s with limits := none }) :
    KeepsPower s t := by
  have same : heat ({ t with lst := { t.lst with limits := s.lst.limits } } : State) = heat s := by
    have e := congrArg (fun x : Heat => { x with limits := s.lst.limits }) h
    exact e
  have kept : Keeps s { t with lst := { t.lst with limits := s.lst.limits } } := .of_heat same
  exact ⟨kept.firing, kept.demand⟩

/-! ### A loop changed -/

/-- A loop that stays ACTIVE, whose integral and demand do not rise, and with the setpoint it had. -/
structure Cools (x y : Loop) : Prop where
  active : x.mode = .active → y.mode = .active
  integral : y.integral ≤ x.integral
  demand : y.demand ≤ x.demand
  setpoint : y.setpoint = x.setpoint

theorem getLoop_updLoop_cases (s : State) (l j : LoopId) (f : Loop → Loop) :
    (j = l ∧ getLoop (updLoop s l f) j = f (getLoop s j)) ∨ getLoop (updLoop s l f) j = getLoop s j := by
  by_cases e : j = l
  · subst e; exact .inl ⟨rfl, getLoop_updLoop s j f⟩
  · exact .inr (getLoop_updLoop_other s l j f e)

/-- Firing asks of a loop its state alone. -/
theorem updLoop_firing {s : State} {l : LoopId} {f : Loop → Loop}
    (h : (getLoop s l).mode = .active → (f (getLoop s l)).mode = .active) :
    FiresLawfully s → FiresLawfully (updLoop s l f) :=
  firesLawfully_mono rfl (fun _ => le_rfl) fun g hg => ⟨hg, id, fun e k p _ _ _ => ⟨fun active => by
    rcases getLoop_updLoop_cases s l k f with ⟨rfl, e⟩ | e
    · rw [e]; exact h active
    · rw [e]; exact active, id⟩⟩

/-- Integral and demand of a changed loop stay within its ranges. -/
theorem updLoop_demand {s : State} {l : LoopId} {f : Loop → Loop}
    (h : ∀ e, activeLoop s l = some e → LoopInRange e (getLoop s l) → LoopInRange e (f (getLoop s l))) :
    DemandLaw s → DemandLaw (updLoop s l f) :=
  demandLaw_mono rfl fun k e he w => by
    rcases getLoop_updLoop_cases s l k f with ⟨rfl, same⟩ | same <;> rw [same]
    · exact h e he w
    · exact w

/-- The setpoint of a changed loop is as it was, or stands below the hard maximum. -/
theorem updLoop_setpoint {s : State} {l : LoopId} {f : Loop → Loop}
    (h : (f (getLoop s l)).setpoint = (getLoop s l).setpoint ∨
      ∀ sp m, (f (getLoop s l)).setpoint = some sp → hardMax s l = some m → sp ≤ m - 50) :
    SetpointLaw s → SetpointLaw (updLoop s l f) :=
  setpointLaw_mono rfl fun k => by
    rcases getLoop_updLoop_cases s l k f with ⟨rfl, same⟩ | same <;> rw [same]
    · exact h
    · exact .inl rfl

theorem updLoop_kept {s : State} {l : LoopId} {f : Loop → Loop} (h : Cools (getLoop s l) (f (getLoop s l))) :
    Keeps s (updLoop s l f) where
  firing := updLoop_firing h.active
  demand := updLoop_demand fun _ _ w => loopInRange_mono h.integral h.demand w
  setpoint := updLoop_setpoint (.inl h.setpoint)

theorem compose_kept (s : State) (l : LoopId) : Keeps s (compose s l) := by
  rw [compose_eq]
  exact ⟨⟨updLoop_firing id, updLoop_demand fun _ _ w => w⟩,
    updLoop_setpoint (.inr fun sp m hsp hm => composed_le hsp hm)⟩

theorem judgeBand_kept (s : State) (l : LoopId) : Keeps s (judgeBand s l) := by
  rw [judgeBand_eq]
  exact updLoop_kept ⟨fun h => (banded_mode _ _ _).trans h, (banded_integral _ _ _).le, (banded_demand _ _ _).le,
    banded_setpoint _ _ _⟩

/-! ### The alarm slots -/

/-- A slot is none of the three of PHASE_LOST. -/
def NotPhase (k : SlotId) : Prop := ∀ p : PhaseId, slotPhaseLost p ≠ k

theorem notPhase_of {k : SlotId} (h : k.val < 3 ∨ 5 < k.val) : NotPhase k := by
  intro p e
  have := congrArg Fin.val e
  have := p.isLt
  simp only [slotPhaseLost] at *
  omega

theorem heat_updSlot (s : State) {k : SlotId} (f : AlarmSlot → AlarmSlot) (h : NotPhase k) :
    heat (updSlot s k f) = heat s := by
  have slot (p : PhaseId) : phaseLost (updSlot s k f) p = phaseLost s p := by
    unfold phaseLost isLive
    rw [Fin.getElem_fin, updSlot_other _ _ _ _ (h p)]; rfl
  unfold heat
  rw [slot, slot, slot]; rfl

theorem heat_judgeSlot (s : State) {k : SlotId} (c : Bool) (d : Int) (h : NotPhase k) :
    heat (judgeSlot s k c d) = heat s := by
  unfold judgeSlot; split <;> exact heat_updSlot _ _ h

theorem heat_latchSlot (s : State) (k : SlotId) (d : Int) : heat (latchSlot s k d) = heat s := by
  have slot (p : PhaseId) : phaseLost (latchSlot s k d) p = phaseLost s p := by
    unfold phaseLost isLive
    by_cases e : slotPhaseLost p = k
    · rw [e, Fin.getElem_fin, latchSlot_same]; rfl
    · rw [Fin.getElem_fin, show (latchSlot s k d) = updSlot s k (AlarmSlot.latch d) from rfl,
        updSlot_other _ _ _ _ e]; rfl
  unfold heat
  rw [slot, slot, slot]; rfl

theorem updSlot_kept (s : State) {k : SlotId} (f : AlarmSlot → AlarmSlot) (h : NotPhase k) :
    Keeps s (updSlot s k f) := .of_heat (heat_updSlot s f h)

theorem raiseSlot_kept (s : State) {k : SlotId} (d : Int) (h : NotPhase k) : Keeps s (raiseSlot s k d) :=
  updSlot_kept s _ h

theorem lowerSlot_kept (s : State) {k : SlotId} (h : NotPhase k) : Keeps s (lowerSlot s k) := updSlot_kept s _ h

theorem judgeSlot_kept (s : State) {k : SlotId} (c : Bool) (d : Int) (h : NotPhase k) :
    Keeps s (judgeSlot s k c d) := .of_heat (heat_judgeSlot s c d h)

theorem latchSlot_kept (s : State) (k : SlotId) (d : Int) : Keeps s (latchSlot s k d) :=
  .of_heat (heat_latchSlot s k d)

theorem notPhase_overtemp (l : LoopId) : NotPhase (slotOvertemp l) := notPhase_of (.inr (by simp [slotOvertemp]; omega))
theorem notPhase_runaway (l : LoopId) : NotPhase (slotRunaway l) := notPhase_of (.inr (by simp [slotRunaway]; omega))
theorem notPhase_starved (l : LoopId) : NotPhase (slotStarved l) := notPhase_of (.inr (by simp [slotStarved]; omega))
theorem notPhase_pump (p : Pump) : NotPhase (slotPumpFault p) := notPhase_of (.inr (by cases p <;> decide))
theorem notPhase_extract (h : HoodId) : NotPhase (slotExtractLow h) := notPhase_of (.inr (by simp [slotExtractLow]; omega))
theorem notPhase_loaded (h : HoodId) : NotPhase (slotFilterLoaded h) := notPhase_of (.inr (by simp [slotFilterLoaded]; omega))
theorem notPhase_blocked (h : HoodId) : NotPhase (slotFilterBlocked h) := notPhase_of (.inr (by simp [slotFilterBlocked]; omega))

/-! ### The gates (R94) -/

theorem idleGates_gate (s : State) (p : GateId → Bool) (g : GateId) :
    (idleGates s p).fal.gates[g] = if p g then ⟨0, false⟩ else s.fal.gates[g] := by
  simp [idleGates]

/-- Gates put to IDLE go down. -/
theorem idleGates_kept (s : State) (p : GateId → Bool) : Keeps s (idleGates s p) := by
  refine ⟨⟨firesLawfully_mono rfl (fun g => ?_) fun g hg => ?_, demandLaw_mono rfl fun _ _ _ w => w⟩,
    setpointLaw_mono rfl fun _ => .inl rfl⟩
  · rw [idleGates_gate]; split
    · exact Nat.zero_le _
    · exact le_rfl
  · rw [idleGates_gate] at hg
    split at hg
    · cases hg
    · exact ⟨hg, id, fun _ _ _ _ _ _ => ⟨id, id⟩⟩

theorem falStopLoop_kept (s : State) (l : LoopId) : Keeps s (falStopLoop s l) := by
  let u := idleGates s (gateOfLoop s l)
  let v : State := { u with fal := { u.fal with starve := u.fal.starve.set l 0 } }
  have counter : Keeps u v := .of_heat rfl
  exact ((idleGates_kept s _).trans counter).trans (lowerSlot_kept v (notPhase_starved l))

/-- No gate of the loop fires. -/
def LoopDark (s : State) (l : LoopId) : Prop :=
  ∀ (g : GateId) (e : GateEntry), activeGate s g = some e → e.loop = some l → s.fal.gates[g].firing = false

/-- A loop whose gates do not fire may change its state. -/
theorem updLoop_dark_firing {s : State} {l : LoopId} {f : Loop → Loop} (dark : LoopDark s l) :
    FiresLawfully s → FiresLawfully (updLoop s l f) :=
  firesLawfully_mono rfl (fun _ => le_rfl) fun g hg => ⟨hg, id, fun e k p he hk _ => ⟨fun active => by
    rcases getLoop_updLoop_cases s l k f with ⟨rfl, -⟩ | same
    · have off : s.fal.gates[g].firing = false := dark g e he hk
      have on : s.fal.gates[g].firing = true := hg
      rw [off] at on; cases on
    · rw [same]; exact active, id⟩⟩

theorem falStopLoop_gate (s : State) (l : LoopId) (g : GateId) :
    (falStopLoop s l).fal.gates[g] = if gateOfLoop s l g then ⟨0, false⟩ else s.fal.gates[g] :=
  idleGates_gate s (gateOfLoop s l) g

theorem falStopLoop_dark (s : State) (l : LoopId) : LoopDark (falStopLoop s l) l := by
  intro g e he hl
  have he : activeGate s g = some e := he
  have own : gateOfLoop s l g = true := by unfold gateOfLoop; rw [he]; simp [hl]
  rw [falStopLoop_gate, own]; rfl

/-- By the law of firing the gates of a loop that is not ACTIVE are dark. -/
theorem dark_of_law {s : State} {l : LoopId} (h : FiresLawfully s) (mode : (getLoop s l).mode ≠ .active) :
    LoopDark s l := by
  intro g e he hl
  by_contra on
  obtain ⟨-, e', l', -, he', hl', -, -, active, -⟩ := h.2 g (Bool.eq_true_of_not_eq_false on)
  rw [he] at he'; cases he'
  rw [hl] at hl'; cases hl'
  exact mode active

/-- The change of a loop's record and the stop of its gates can be taken in either order. -/
theorem falStopLoop_updLoop (s : State) (l : LoopId) (f : Loop → Loop) :
    falStopLoop (updLoop s l f) l = updLoop (falStopLoop s l) l f := rfl

/-- A loop leaves ACTIVE with its gates stopped (R67, R94). -/
theorem leaveActive_kept (s : State) {l : LoopId} {f : Loop → Loop}
    (integral : (f (getLoop s l)).integral ≤ (getLoop s l).integral)
    (demand : (f (getLoop s l)).demand ≤ (getLoop s l).demand)
    (setpoint : (f (getLoop s l)).setpoint = (getLoop s l).setpoint) :
    Keeps s (falStopLoop (updLoop s l f) l) := by
  rw [falStopLoop_updLoop]
  have own : getLoop (falStopLoop s l) l = getLoop s l := rfl
  exact (falStopLoop_kept s l).trans
    ⟨⟨updLoop_dark_firing (falStopLoop_dark s l), updLoop_demand fun _ _ w => loopInRange_mono integral demand w⟩,
      updLoop_setpoint (.inl setpoint)⟩

/-- A loop that is not ACTIVE changes its state. -/
theorem updLoop_resting_kept {s : State} {l : LoopId} {f : Loop → Loop} (mode : (getLoop s l).mode ≠ .active)
    (integral : (f (getLoop s l)).integral ≤ (getLoop s l).integral)
    (demand : (f (getLoop s l)).demand ≤ (getLoop s l).demand)
    (setpoint : (f (getLoop s l)).setpoint = (getLoop s l).setpoint) : Keeps s (updLoop s l f) where
  firing := fun h => updLoop_dark_firing (dark_of_law h mode) h
  demand := updLoop_demand fun _ _ w => loopInRange_mono integral demand w
  setpoint := updLoop_setpoint (.inl setpoint)

/-! ### LPU (R67, R78, R82) -/

theorem loopOn_kept (s : State) (l : LoopId) : Keeps s (loopOn s l) :=
  updLoop_kept ⟨fun _ => rfl, le_rfl, Nat.zero_le _, rfl⟩

theorem loopOff_kept (s : State) (l : LoopId) : Keeps s (loopOff s l) := by
  unfold loopOff
  split
  · exact .refl s
  · exact leaveActive_kept s le_rfl (Nat.zero_le _) rfl
  · next mode =>
    exact (updLoop_resting_kept (by rw [mode]; simp) (Nat.zero_le _) (Nat.zero_le _) rfl).trans
      (lowerSlot_kept _ (notPhase_runaway l))

theorem loopFaultOnly_kept (s : State) (l : LoopId) (c : Cause) : Keeps s (loopFaultOnly s l c) := by
  unfold loopFaultOnly
  split
  · exact .refl s
  · exact leaveActive_kept s le_rfl (Nat.zero_le _) rfl
  · exact updLoop_kept ⟨id, le_rfl, le_rfl, rfl⟩

theorem clamp_bounds {lo hi : Int} (h : lo ≤ hi) (x : Int) : lo ≤ clamp lo hi x ∧ clamp lo hi x ≤ hi := by
  unfold clamp; split
  · omega
  · split <;> omega

/-- The law leaves integral and demand within their ranges (R66, R78). -/
theorem controlLaw_bounds (e : LoopEntry) (sp pv : Int) (integral ff : Nat) :
    (integral ≤ e.umax * 256 → (controlLaw e sp pv integral ff).1 ≤ e.umax * 256) ∧
      (controlLaw e sp pv integral ff).2 ≤ e.umax := by
  unfold controlLaw
  dsimp only
  constructor
  · intro h
    split
    · simpa using h
    · have := (clamp_bounds (lo := 0) (hi := e.umax * 256) (by omega)
        (integral + e.ki * clamp (-500) 500 (sp - pv))).2
      omega
  · generalize proportional e _ + floorDiv _ 256 + (ff : Int) = x
    have := (clamp_bounds (lo := 0) (hi := e.umax) (by omega) x).2
    omega

/-- A loop with the integral and demand that the law gives it (R78). -/
def underLaw (e : LoopEntry) (sp pv : Int) (x : Loop) : Loop :=
  { x with integral := (controlLaw e sp pv x.integral x.ff).1, demand := (controlLaw e sp pv x.integral x.ff).2 }

theorem applyLaw_of {s : State} {l : LoopId} {e : LoopEntry} {sp pv : Int} (mode : (getLoop s l).mode = .active)
    (hsp : (getLoop s l).setpoint = some sp) (hpv : (getLoop s l).pv = some pv) (he : activeLoop s l = some e) :
    applyLaw s l = updLoop s l fun x => { x with
      integral := (underLaw e sp pv (getLoop s l)).integral, demand := (underLaw e sp pv (getLoop s l)).demand } := by
  unfold applyLaw; simp only [mode, hsp, hpv, he]; rfl

/-- The law is applied to an ACTIVE loop with setpoint, PV and entry; another is left (R77). -/
theorem applyLaw_cases (s : State) (l : LoopId) : applyLaw s l = s ∨ ∃ pv sp e,
    (getLoop s l).mode = .active ∧ (getLoop s l).pv = some pv ∧ (getLoop s l).setpoint = some sp ∧
    activeLoop s l = some e := by
  unfold applyLaw
  dsimp only
  split
  · next pv sp e mode hpv hsp he => exact .inr ⟨pv, sp, e, mode, hpv, hsp, he⟩
  · exact .inl rfl

theorem applyLaw_kept (s : State) (l : LoopId) : Keeps s (applyLaw s l) := by
  rcases applyLaw_cases s l with same | ⟨pv, sp, e, mode, hpv, hsp, he⟩
  · rw [same]; exact .refl s
  · rw [applyLaw_of mode hsp hpv he]
    refine ⟨⟨updLoop_firing id, updLoop_demand fun a ha w => ?_⟩, updLoop_setpoint (.inl rfl)⟩
    rw [he] at ha; cases ha
    obtain ⟨i, d⟩ := controlLaw_bounds e sp pv (getLoop s l).integral (getLoop s l).ff
    exact ⟨i w.1, d⟩

theorem judgeWindow_kept (s : State) (l : LoopId) : Keeps s (judgeWindow s l) := by
  refine updLoop_kept ?_
  split
  · split
    · split <;> exact ⟨id, le_rfl, le_rfl, rfl⟩
    · exact ⟨id, le_rfl, le_rfl, rfl⟩
  · exact ⟨id, le_rfl, le_rfl, rfl⟩

theorem clampLoop_kept (s : State) (l : LoopId) : Keeps s (clampLoop s l) := by
  unfold clampLoop
  split
  · exact .refl s
  · exact updLoop_kept ⟨id, min_le_left _ _, min_le_left _ _, rfl⟩

end Sys2Proof.PreheatLoops
end

section
/-! SUPPORT. The laws of the heat under the operations of ILU, FAL, POT, LST, EXU and FLX (R94, R95, R107 to R114). -/

namespace Sys2Proof.PreheatLoops

open Sys2Proof.Machine Sys2Proof.Safety Sys2Proof.SelectiveFluxing

/-! ### FLX, EXU and LST leave what the laws read -/

theorem heat_of_flxOnly {s t : State} (h : FlxOnly s t) : heat t = heat s := by rw [h]; rfl

theorem flxOnly_kept {s t : State} (h : FlxOnly s t) : Keeps s t := .of_heat (heat_of_flxOnly h)

theorem heat_of_exuOnly {s t : State} (h : ExuOnly s t) (core : t.core = s.core) : heat t = heat s := by
  have limits := core_limits core
  rw [h] at limits ⊢
  unfold heat
  rw [limits]; rfl

/-! ### ILU (R154, R158) and settle -/

theorem phaseLost_notJudged (p : PhaseId) : judgedSlot (slotPhaseLost p).val = false := by revert p; decide

/-- What leaves the core, the gates and PERMIT keeps the law of firing. -/
theorem firesLawfully_of_core {s t : State} (core : t.core = s.core) (gates : t.fal.gates = s.fal.gates)
    (permit : t.ilu.permit = s.ilu.permit) : FiresLawfully s → FiresLawfully t :=
  firesLawfully_mono (by rw [core_tbs core]) (fun g => by rw [gates]) fun g hg => by
    rw [gates] at hg
    refine ⟨hg, fun e => permit.trans e, fun e l p _ _ _ => ⟨fun m => (loopKept_of_core core l).1.trans m, fun m => ?_⟩⟩
    have slot := core_slot core (slotPhaseLost p) (phaseLost_notJudged p)
    rw [Fin.getElem_fin] at m ⊢
    rw [slot]; exact m

theorem judgeSlot_permit (s : State) (k : SlotId) (c : Bool) (d : Int) :
    (judgeSlot s k c d).ilu.permit = s.ilu.permit := by
  unfold judgeSlot; split <;> rfl

theorem lowerSlot_permit (s : State) (k : SlotId) : (lowerSlot s k).ilu.permit = s.ilu.permit := rfl

theorem judgeLoops_permit (s : State) : (judgeLoops s).ilu.permit = s.ilu.permit := by
  unfold judgeLoops
  refine foldl_keeps (fun u : State => u.ilu.permit) _ (fun u l => ?_) _ _
  dsimp only [judgeSensor]
  rw [judgeSlot_permit, judgeBand_ilu, compose_ilu]

theorem judgePump_permit (s : State) (p : Pump) : (judgePump s p).ilu.permit = s.ilu.permit := by
  obtain ⟨x, h | h⟩ := judgePump_beside s p
  · rw [h]
  · rw [h]; rfl

theorem judgePot_permit (s : State) : (judgePot s).ilu.permit = s.ilu.permit := by
  have targets : (judgeTargets s).ilu = s.ilu := by unfold judgeTargets; rfl
  unfold judgePot; rw [judgePump_permit, judgePump_permit, targets]

theorem judgeFlux_permit (s : State) : (judgeFlux s).ilu.permit = s.ilu.permit := by
  unfold judgeFlux judgePressure
  split
  · rw [judgeSlot_permit, (judgeBar_flxOnly _).ilu]
  · rw [lowerSlot_permit, (judgeBar_flxOnly _).ilu]

theorem judgeHood_permit (s : State) (h : HoodId) : (judgeHood s h).ilu.permit = s.ilu.permit := by
  unfold judgeHood judgeFan
  dsimp only
  rw [(judgeCounting_exuOnly _ _).ilu, judgeSlot_permit, (judgeAirflow_exuOnly _ _).ilu,
    (setRequirement_exuOnly _ _).ilu]

theorem judgeExtraction_permit (s : State) : (judgeExtraction s).ilu.permit = s.ilu.permit := by
  unfold judgeExtraction judgeService; rw [judgeSlot_permit, judgeHood_permit, judgeHood_permit]

theorem judgeSpeed_permit (s : State) : (judgeSpeed s).ilu.permit = s.ilu.permit := by
  unfold judgeSpeed; split
  · exact judgeSlot_permit _ _ _ _
  · rfl

/-- What follows the judgement of PERMIT in a round leaves PERMIT and the gates. -/
theorem judgeRound_permit (s : State) : (judgeRound s).ilu.permit = (judgePermit (passStanding s)).ilu.permit ∧
    (judgeRound s).fal = (judgePermit (passStanding s)).fal := by
  unfold judgeRound
  constructor
  · rw [judgeExtraction_permit, judgeFlux_permit, judgePot_permit, judgeLoops_permit]
  · rw [judgeExtraction_fal, judgeFlux_fal, judgePot_fal, judgeLoops_fal]

/-- PERMIT falls with every gate stopped (R94). -/
theorem judgePermit_firing (s : State) (h : FiresLawfully s) : FiresLawfully (judgePermit s) := by
  have stopped (u : State) (law : CreditsBounded u) : FiresLawfully (falStopAll u) := by
    have idle (g : GateId) : (falStopAll u).fal.gates[g] = ⟨0, false⟩ := idleGates_gate u (fun _ => true) g
    exact ⟨fun g => by rw [idle]; exact Nat.zero_le _, fun g hg => by rw [idle] at hg; cases hg⟩
  unfold judgePermit
  dsimp only
  split
  · exact stopped _ h.1
  · next no =>
    refine firesLawfully_mono (s := s) rfl (fun _ => le_rfl) (fun g hg => ⟨hg, fun on => ?_, fun _ _ _ _ _ _ => ⟨id, id⟩⟩) h
    rw [on] at no
    simpa using no

theorem passStanding_permit (s : State) : (passStanding s).ilu.permit = s.ilu.permit := by rw [passStanding_ilu]

theorem roundClosed_firing : RoundClosed FiresLawfully where
  round := fun {u} h => by
    have passed : FiresLawfully (passStanding u) :=
      firesLawfully_of_core (passStanding_core u) (by rw [passStanding_fal]) (passStanding_permit u) h
    obtain ⟨permit, fal⟩ := judgeRound_permit u
    refine firesLawfully_of_core ?_ (by rw [fal]) permit (judgePermit_firing _ passed)
    rw [judgeRound_core, judgePermit_core, passStanding_core]
  speed := fun {u} h => firesLawfully_of_core (judgeSpeed_core u) (by rw [judgeSpeed_fal]) (judgeSpeed_permit u) h

theorem firesLawfully_of_ends {t : State} (h : EndsFrom FiresLawfully t) : FiresLawfully t := by
  obtain ⟨u, hu, rfl⟩ := h
  have round := roundClosed_firing.round hu
  generalize judgeRound u = v at round
  exact firesLawfully_of_core ((judgeAdmission_core _).trans (judgeOutputs_core _)) rfl rfl round

theorem demandLaw_of_core {s t : State} (core : t.core = s.core) : DemandLaw s → DemandLaw t :=
  demandLaw_mono (by rw [core_tbs core]) fun l _ _ w => by
    obtain ⟨-, -, -, integral, demand, -⟩ := loopKept_of_core core l
    unfold LoopInRange; rw [integral, demand]; exact w

/-- Every loop that has been composed stands below its hard maximum. -/
theorem setpointLaw_of_recomposed {s t : State} (limits : t.lst.limits = s.lst.limits)
    (loop : ∀ l, getLoop t l = recomposed s l (getLoop s l)) : SetpointLaw t := by
  intro l sp m hsp hm
  have hsp : (getLoop t l).setpoint = some sp := hsp
  rw [loop, recomposed, banded_setpoint] at hsp
  exact composed_le hsp ((hardMax_of_limits limits l).symm.trans hm)

theorem settle_kept_of {s u : State} (h : KeepsPower s u) : Keeps s (settle u) where
  firing := fun e => firesLawfully_of_ends (settle_ends roundClosed_firing (h.firing e))
  demand := fun e => demandLaw_of_core (settle_core u) (h.demand e)
  setpoint := fun _ => setpointLaw_of_recomposed (settle_limits u) (getLoop_settle u)

theorem settleSpeed_kept_of {s u : State} (h : KeepsPower s u) : Keeps s (settleSpeed u) where
  firing := fun e => firesLawfully_of_ends (settleSpeed_ends roundClosed_firing (h.firing e))
  demand := fun e => demandLaw_of_core (settleSpeed_core u) (h.demand e)
  setpoint := fun _ => setpointLaw_of_recomposed (core_limits (settleSpeed_core u)) (getLoop_settleSpeed u)

/-- An operation with `settle` after it. -/
theorem Keeps.settled {s u : State} (h : Keeps s u) : Keeps s (settle u) := settle_kept_of h.toKeepsPower

theorem Keeps.settledSpeed {s u : State} (h : Keeps s u) : Keeps s (settleSpeed u) := settleSpeed_kept_of h.toKeepsPower

/-! ### POT (R107 to R114, R119 to R130) -/

theorem pot_kept (s : State) (p : Pot) : Keeps s { s with pot := p } := .of_heat rfl

theorem feederOff_kept (s : State) : Keeps s (feederOff s) := by
  rw [(feederOff_potOnly s).1]; exact pot_kept s _

theorem potEnter_kept (s : State) (st : PotState) : Keeps s (potEnter s st) := by
  have put := pot_kept s { s.pot with state := st, pumpsStarted := false }
  unfold potEnter
  dsimp only
  split
  · exact ((put.trans (feederOff_kept _)).trans (pot_kept _ _)).trans (loopOff_kept _ _)
  · exact put.trans (pot_kept _ _)
  · exact (put.trans (feederOff_kept _)).trans (pot_kept _ _)
  · exact put
  · exact put
  · exact put

theorem loopFault_kept (s : State) (l : LoopId) (c : Cause) : Keeps s (loopFault s l c) := by
  unfold loopFault
  dsimp only
  split
  · exact (loopFaultOnly_kept s l c).trans (potEnter_kept _ _)
  · exact loopFaultOnly_kept s l c

theorem judgePumpsStarted_kept (s : State) : Keeps s (judgePumpsStarted s) := by
  unfold judgePumpsStarted
  split
  · split
    · exact pot_kept s _
    · exact .refl s
  · exact .refl s

theorem potRecover_kept (s : State) : Keeps s (potRecover s) := by
  have judged := ((potEnter_kept s .recovering).trans (compose_kept _ loopP)).trans (judgeBand_kept _ loopP)
  unfold potRecover
  dsimp only
  split
  · exact judged.trans (potEnter_kept _ _)
  · exact judged.trans (judgePumpsStarted_kept _)

theorem exitSetback_kept (s : State) : Keeps s (exitSetback s) := by
  unfold exitSetback
  split
  · exact potRecover_kept s
  · exact .refl s

theorem potSetback_kept (s : State) : Keeps s (potSetback s) :=
  ((potEnter_kept s .setback).trans (compose_kept _ loopP)).trans (judgeBand_kept _ loopP)

theorem judgeSetback_kept (s : State) : Keeps s (judgeSetback s) := by
  unfold judgeSetback
  split
  · exact potSetback_kept s
  · exact .refl s

theorem potSettled_kept (s : State) : Keeps s (potSettled s) := by
  unfold potSettled
  split
  · exact potEnter_kept s _
  · exact .refl s

theorem expireSettle_kept (s : State) (l : LoopId) : Keeps s (expireSettle s l) := by
  have timed : Keeps s (updLoop s l fun x => { x with settleFrom := none, settled := true }) :=
    updLoop_kept ⟨id, le_rfl, le_rfl, rfl⟩
  unfold expireSettle
  split
  · dsimp only
    split
    · exact timed.trans (potSettled_kept _)
    · exact timed
  · exact .refl s

theorem expireWindow_kept (s : State) (l : LoopId) : Keeps s (expireWindow s l) := by
  unfold expireWindow
  split
  · split
    · split
      · exact updLoop_kept ⟨id, le_rfl, le_rfl, rfl⟩
      · split
        · exact (loopFault_kept s l _).trans (raiseSlot_kept _ _ (notPhase_runaway l))
        · exact updLoop_kept ⟨id, le_rfl, le_rfl, rfl⟩
    · exact .refl s
  · exact .refl s

theorem judgeContact_kept (s : State) (start : Bool) : Keeps s (judgeContact s start) := by
  unfold judgeContact
  split
  · exact .refl s
  · dsimp only
    split_ifs
    · exact (pot_kept s _).trans (latchSlot_kept _ _ _)
    · exact .refl s

theorem contactStart_kept (s : State) (b : BoardRecord) : Keeps s (contactStart s b) := by
  unfold contactStart
  dsimp only
  exact Keeps.trans (.of_heat (by rfl)) (judgeContact_kept _ true)

theorem contactEnd_kept (s : State) : Keeps s (contactEnd s) := by
  unfold contactEnd
  split
  · exact .refl s
  · exact .of_heat rfl

theorem judgeContactEnd_kept (s : State) : Keeps s (judgeContactEnd s) := by
  unfold judgeContactEnd
  split
  · split
    · split
      · exact contactEnd_kept s
      · exact .refl s
    · exact .refl s
  · exact .refl s

theorem judgeContactStart_kept (s : State) : Keeps s (judgeContactStart s) := by
  unfold judgeContactStart
  split
  · split
    · exact contactStart_kept s _
    · exact .refl s
  · exact .refl s

theorem expireContactDwell_kept (s : State) : Keeps s (expireContactDwell s) := by
  unfold expireContactDwell
  split
  · split
    · exact .refl s
    · exact (Keeps.of_heat (by rfl)).trans (latchSlot_kept _ _ _)
  · exact .refl s

theorem feedBySample_kept (s : State) (e : PotEntry) (level : Int) : Keeps s (feedBySample s e level) := by
  unfold feedBySample
  split
  · exact (feederOff_kept s).trans (pot_kept _ _)
  · split
    · exact pot_kept s _
    · split
      · dsimp only
        split <;> exact pot_kept s _
      · exact pot_kept s _

theorem levelSample_kept (s : State) (v : Int) : Keeps s (levelSample s v) := by
  have judged (p : Pot) (low high : Bool) (d : Int) : Keeps s
      (judgeSlot (judgeSlot { s with pot := p } slotLevelLow low d) slotLevelHigh high d) :=
    ((pot_kept s p).trans (judgeSlot_kept _ _ _ (notPhase_of (.inr (by decide))))).trans
      (judgeSlot_kept _ _ _ (notPhase_of (.inr (by decide))))
  unfold levelSample
  split
  · exact .refl s
  · split
    · exact .refl s
    · split
      · exact .refl s
      · exact (judged _ _ _ _).trans (feedBySample_kept _ _ _)

theorem expireMaxRun_kept (s : State) : Keeps s (expireMaxRun s) := by
  unfold expireMaxRun
  split
  · split
    · exact .refl s
    · exact ((feederOff_kept s).trans (pot_kept _ _)).trans (latchSlot_kept _ _ _)
  · exact .refl s

theorem endJog_kept (s : State) : Keeps s (endJog s) := by
  rw [(endJog_potOnly s).1]; exact pot_kept s _

theorem rampPumps_kept (s : State) : Keeps s (rampPumps s) := by
  unfold rampPumps
  dsimp only
  split
  · exact pot_kept s _
  · exact (pot_kept s _).trans (pot_kept _ _)

theorem judgeOvertemp_kept (s : State) (l : LoopId) : Keeps s (judgeOvertemp s l) := by
  unfold judgeOvertemp
  split
  · split
    · exact (raiseSlot_kept s _ (notPhase_overtemp l)).trans (loopFault_kept _ _ _)
    · exact lowerSlot_kept s (notPhase_overtemp l)
  · exact .refl s
  · exact lowerSlot_kept s (notPhase_overtemp l)

theorem judgeAllOvertemp_kept (s : State) : Keeps s (judgeAllOvertemp s) := foldl_kept judgeOvertemp_kept _ s

theorem putPotPv_kept (s : State) (pv : Option Int) (x : PvSource) : Keeps s (putPotPv s pv x) := by
  have pvPut : Keeps s (updLoop s loopP fun x => { x with pv := pv }) := updLoop_kept ⟨id, le_rfl, le_rfl, rfl⟩
  exact pvPut.trans (.of_heat rfl)

theorem formPotPv_kept (s : State) : Keeps s (formPotPv s) := by
  have degraded : NotPhase slotPotDegraded := notPhase_of (.inr (by decide))
  unfold formPotPv
  split
  · dsimp only
    split
    · exact (putPotPv_kept s _ _).trans (updSlot_kept _ _ degraded)
    · exact (putPotPv_kept s _ _).trans (lowerSlot_kept _ degraded)
  · exact (putPotPv_kept s _ _).trans (lowerSlot_kept _ degraded)
  · exact ((putPotPv_kept s _ _).trans (judgeOvertemp_kept _ _)).trans (lowerSlot_kept _ degraded)

theorem potNewPv_kept (s : State) (pv : Int) : Keeps s (potNewPv s pv) := by
  have wave (u : State) (p : Pos) (f : WavePart → WavePart) : Keeps u (updWave u p f) := .of_heat rfl
  unfold potNewPv
  dsimp only
  split
  · exact judgePumpsStarted_kept s
  · exact ((judgePumpsStarted_kept s).trans (wave _ _ _)).trans (judgeContact_kept _ _)

theorem evaluate_kept (s : State) (l : LoopId) : Keeps s (evaluate s l) :=
  (((judgeOvertemp_kept s l).trans (judgeBand_kept _ l)).trans (applyLaw_kept _ l)).trans (judgeWindow_kept _ l)

theorem zoneSample_kept (s : State) (k : ZoneId) (v : Int) : Keeps s (zoneSample s k v) := by
  have put : Keeps s (updLoop s (zoneLoop k) fun x => { x with pv := some v }) :=
    updLoop_kept ⟨id, le_rfl, le_rfl, rfl⟩
  have records (u : State) : Keeps u (writeZoneRecords u k v) := by
    unfold writeZoneRecords
    split
    · exact .refl u
    · exact .of_heat rfl
  exact (put.trans (evaluate_kept _ _)).trans (records _)

theorem potSample_kept (s : State) : Keeps s (potSample s) := by
  unfold potSample
  dsimp only
  split
  · exact ((formPotPv_kept s).trans (evaluate_kept _ _)).trans (potNewPv_kept _ _)
  · exact formPotPv_kept s
  · exact formPotPv_kept s

theorem potClassChange_kept (s : State) : Keeps s (potClassChange s) := by
  have formed := formPotPv_kept s
  have faulted (u : State) (h : Keeps s u) :
      Keeps s (if loopSignalLost u loopP then loopFault u loopP .sensorLost else u) := by
    split
    · exact h.trans (loopFault_kept _ _ _)
    · exact h
  unfold potClassChange
  dsimp only
  refine faulted _ ?_
  split
  · exact ((formed.trans (judgeOvertemp_kept _ _)).trans (judgeBand_kept _ _)).trans (potNewPv_kept _ _)
  · exact formed
  · exact formed.trans (judgeBand_kept _ _)

/-! ### EXU and LST (R133 to R147, R194 to R196) -/

theorem updHood_kept (s : State) (h : HoodId) (f : Hood → Hood) : Keeps s (updHood s h f) := .of_heat rfl

theorem handSave_kept (s : State) (h : HoodId) (n : Nat) : Keeps s (handSave s h n) :=
  .of_heat (heat_of_exuOnly (handSave_exuOnly s h n) (handSave_core s h n))

theorem accrue_kept (s : State) (h : HoodId) : Keeps s (accrue s h) :=
  .of_heat (heat_of_exuOnly (accrue_exuOnly s h) (accrue_core s h))

theorem setRequirement_kept (s : State) (h : HoodId) : Keeps s (setRequirement s h) :=
  .of_heat (heat_of_exuOnly (setRequirement_exuOnly s h) (setRequirement_core s h))

theorem judgeAirflow_kept (s : State) (h : HoodId) : Keeps s (judgeAirflow s h) := updHood_kept s h _

theorem startWaiting_kept (s : State) : Keeps s (startWaiting s) := by
  unfold startWaiting
  dsimp only
  split
  · exact .of_heat rfl
  · split
    · exact .of_heat rfl
    · exact .of_heat rfl

theorem ductSample_kept (s : State) (h : HoodId) (v : Int) : Keeps s (ductSample s h v) := by
  rw [ductSample_exuOnly]; exact .of_heat rfl

theorem ductLost_kept (s : State) (h : HoodId) : Keeps s (ductLost s h) := updHood_kept s h _

theorem expireGrace_kept (s : State) (h : HoodId) : Keeps s (expireGrace s h) := by
  unfold expireGrace
  split
  · exact (updHood_kept s h _).trans (judgeAirflow_kept _ h)
  · exact .refl s

theorem expireDebounce_kept (s : State) (h : HoodId) : Keeps s (expireDebounce s h) := by
  unfold expireDebounce
  split
  · split
    · exact .refl s
    · dsimp only
      split
      · exact (updHood_kept s h _).trans (raiseSlot_kept _ _ (notPhase_extract h))
      · exact (updHood_kept s h _).trans (lowerSlot_kept _ (notPhase_extract h))
  · exact .refl s

theorem expireLockout_kept (s : State) (h : HoodId) : Keeps s (expireLockout s h) := by
  unfold expireLockout
  split
  · dsimp only
    split
    · exact updHood_kept s h _
    · exact Keeps.trans (.of_heat (by rfl)) (raiseSlot_kept _ (k := slotLockout) _ (notPhase_of (.inr (by decide))))
  · exact .refl s

theorem judgeFilter_kept (s : State) (h : HoodId) (v : Int) : Keeps s (judgeFilter s h v) := by
  unfold judgeFilter
  split
  · exact .refl s
  · exact (judgeSlot_kept s _ _ (notPhase_loaded h)).trans (judgeSlot_kept _ _ _ (notPhase_blocked h))

theorem filterLost_kept (s : State) (h : HoodId) : Keeps s (filterLost s h) :=
  (lowerSlot_kept s (notPhase_loaded h)).trans (lowerSlot_kept _ (notPhase_blocked h))

theorem commitHood_kept (s : State) (h : HoodId) : Keeps s (commitHood s h) := by
  have timers := ((((setRequirement_kept s h).trans (expireGrace_kept _ h)).trans (judgeAirflow_kept _ h)).trans
    (expireDebounce_kept _ h)).trans (expireLockout_kept _ h)
  unfold commitHood
  dsimp only
  split
  · exact timers.trans (judgeFilter_kept _ _ _)
  · exact timers

theorem handLimits_kept (s : State) : Keeps s (handLimits s) :=
  ((judgeAllOvertemp_kept s).trans (expireLockout_kept _ hoodF)).trans (expireLockout_kept _ hoodP)

/-! ### New limits (R194, R195) -/

theorem limits_power (s : State) (x : Lst) : KeepsPower s { s with lst := x } := .of_heat rfl

theorem notPhase_limitsInvalid : NotPhase slotLimitsInvalid := notPhase_of (.inl (by decide))

theorem acceptBlock_power (s : State) (b : Block) : KeepsPower s (acceptBlock s b) :=
  (limits_power s _).trans (lowerSlot_kept _ notPhase_limitsInvalid).toKeepsPower

theorem rejectBlock_power (s : State) (d : Nat) : KeepsPower s (rejectBlock s d) :=
  (limits_power s _).trans (updSlot_kept _ _ notPhase_limitsInvalid).toKeepsPower

theorem checkAtStart_power (s : State) : KeepsPower s (checkAtStart s) := by
  unfold checkAtStart
  split
  · exact acceptBlock_power s _
  · exact rejectBlock_power s _

theorem readBack_power (s : State) : KeepsPower s (readBack s) := by
  unfold readBack
  split
  · exact acceptBlock_power s _
  · exact rejectBlock_power s _

theorem completeWrite_kept (s : State) (b : Block) (spoilt : Option (List Byte)) :
    Keeps s (completeWrite s b spoilt) := by
  have put : KeepsPower s (putStorage s b spoilt) := limits_power s _
  exact settle_kept_of (((put.trans (readBack_power _)).trans (handLimits_kept _).toKeepsPower).trans
    (startWaiting_kept _).toKeepsPower)

theorem completeSave_kept (s : State) (b : Block) (spoilt : Option (List Byte)) :
    Keeps s (completeSave s b spoilt) := by
  have put : KeepsPower s (putStorage s b spoilt) := limits_power s _
  have read (u : State) : KeepsPower u (readBackSave u) := by
    unfold readBackSave
    split
    · exact limits_power u _
    · exact (rejectBlock_power u 3).trans (handLimits_kept _).toKeepsPower
  exact settle_kept_of ((put.trans (read _)).trans (startWaiting_kept _).toKeepsPower)

end Sys2Proof.PreheatLoops
end

section
/-! SUPPORT. The laws of the heat under tracking, the link, the table commits, the modes and the limits store. -/

namespace Sys2Proof.PreheatLoops

open Sys2Proof.Machine Sys2Proof.Safety Sys2Proof.SelectiveFluxing

/-! ### TRK: windows and contacts (R12, R119) -/

theorem trk_kept (s : State) (x : Trk) : Keeps s { s with trk := x } := .of_heat rfl

theorem updBoard_kept (s : State) (p : Pos) (f : Board → Board) : Keeps s (updBoard s p f) := .of_heat rfl

theorem markDoubt_kept (s : State) : Keeps s (markDoubt s) := flxOnly_kept (markDoubt_flxOnly s)

theorem sprayJudged_kept (s : State) (b : BoardRecord) (out : FluxOutcome) (volume : Nat) :
    Keeps s (sprayJudged s b out volume) := by
  have written : Keeps s (sprayWritten s b out volume) := .of_heat rfl
  unfold sprayJudged
  split
  · exact written.trans (latchSlot_kept _ _ _)
  · exact written

theorem closeSpray_kept (s : State) (b : BoardRecord) (purged : Bool) : Keeps s (closeSpray s b purged) := by
  have shut : Keeps s (sprayShut s b purged) := flxOnly_kept (sprayShut_flxOnly s b purged)
  cases found : accountOf (sprayShut s b purged) b.pIn with
  | some a =>
    rw [closeSpray_eq found]
    exact shut.trans (sprayJudged_kept _ _ _ _)
  | none =>
    have alone : closeSpray s b purged = sprayShut s b purged := by
      have shutRule : closeValves (if purged then cutAccounts s (fun a => a.board = b.pIn) else s)
        (fun iv => iv.owner = .board b.pIn) = sprayShut s b purged := rfl
      unfold closeSpray
      simp only [shutRule, found]
    rw [alone]; exact shut

theorem windowClosed_kept (s : State) (i : WindowId) (b : BoardRecord) (purged : Bool) :
    Keeps s (windowClosed s i b purged) := by
  cases i with
  | spray => exact closeSpray_kept s b purged
  | zone k => exact .refl s
  | boost => exact .refl s
  | chip => exact .refl s

theorem windowOpened_kept (s : State) (i : WindowId) (b : BoardRecord) : Keeps s (windowOpened s i b) := by
  cases i with
  | spray => exact .of_heat rfl
  | zone k => exact .refl s
  | boost => exact .refl s
  | chip => exact .refl s

theorem judgeWindowOf_kept (g : Geometry) (p : Pos) (s : State) (i : WindowId) : Keeps s (judgeWindowOf g p s i) := by
  unfold judgeWindowOf
  split
  · exact .refl s
  · split
    · split
      · exact (updBoard_kept s p _).trans (windowOpened_kept _ _ _)
      · exact .refl s
    · split
      · exact (updBoard_kept s p _).trans (windowClosed_kept _ _ _ _)
      · exact .refl s
    · exact .refl s

theorem judgeBoardWindows_kept (s : State) (p : Pos) : Keeps s (judgeBoardWindows s p) := by
  unfold judgeBoardWindows
  split
  · exact .refl s
  · exact (foldl_kept (judgeWindowOf_kept _ p) _ s).settled

theorem judgeAllWindows_kept (s : State) : Keeps s (judgeAllWindows s) := foldl_kept judgeBoardWindows_kept _ s

theorem judgeContacts_kept (s : State) : Keeps s (judgeContacts s) :=
  ((judgeContactEnd_kept s).trans (judgeContactStart_kept _)).settled

/-! ### TRK: boards (R16 to R24) -/

theorem closeWindowOf_kept (p : Pos) (purged : Bool) (s : State) (i : WindowId) :
    Keeps s (closeWindowOf p purged s i) := by
  unfold closeWindowOf
  split
  · exact .refl s
  · split
    · exact (updBoard_kept s p _).trans (windowClosed_kept _ _ _ _)
    · exact .refl s

theorem endContactOf_kept (s : State) (p : Pos) : Keeps s (endContactOf s p) := by
  unfold endContactOf
  split
  · split
    · exact contactEnd_kept s
    · exact .refl s
  · exact .refl s

theorem dropAwaiting_kept (s : State) (p : Pos) : Keeps s (dropAwaiting s p) := by
  unfold dropAwaiting
  split
  · exact trk_kept s _
  · exact .refl s

theorem closeBoard_kept (s : State) (p : Pos) (o : BoardOutcome) : Keeps s (closeBoard s p o) :=
  ((foldl_kept (closeWindowOf_kept p _) _ s).trans (endContactOf_kept _ p)).trans (dropAwaiting_kept _ p)

theorem appendCompletion_kept (s : State) (c : Completion) : Keeps s (appendCompletion s c) := by
  unfold appendCompletion
  dsimp only
  split
  · split
    · exact ((trk_kept s _).trans (latchSlot_kept _ _ _)).trans (trk_kept _ _)
    · exact trk_kept s _
  · exact trk_kept s _

theorem completeBoard_kept (s : State) (p : Pos) (o : BoardOutcome) (x : Option Time) :
    Keeps s (completeBoard s p o x) := by
  have closed : Keeps s (settle (closeBoard s p o)) := (closeBoard_kept s p o).settled
  have dropped (u : State) : Keeps u (dropBoard u p) := trk_kept u _
  unfold completeBoard
  dsimp only
  split
  · exact closed
  · next b _ =>
    have left := (closed.trans (dropped _)).trans (appendCompletion_kept _ ⟨b.data, o, x⟩)
    refine Keeps.settledSpeed ?_
    split
    · exact left.trans (judgeSetback_kept _)
    · exact left

theorem makeRecord_kept (s : State) (pIn : Pos) (tIn : Time) : Keeps s (makeRecord s pIn tIn) := by
  unfold makeRecord
  dsimp only
  have joined (u : State) (h : Keeps s u) : Keeps s (judgeContacts (judgeBoardWindows (settleSpeed (exitSetback u)) pIn)) :=
    ((h.trans (exitSetback_kept u)).settledSpeed.trans (judgeBoardWindows_kept _ pIn)).trans (judgeContacts_kept _)
  refine joined _ ?_
  split
  · exact (trk_kept s _).trans (latchSlot_kept _ _ _)
  · exact trk_kept s _

theorem confirmEntry_kept (s : State) (pIn : Pos) (tIn : Time) : Keeps s (confirmEntry s pIn tIn) := by
  have confirmed := trk_kept s { s.trk with entryEye := .confirmed, awaiting := none }
  unfold confirmEntry
  dsimp only
  split
  · exact (confirmed.trans (latchSlot_kept _ _ _)).settled
  · split
    · exact confirmed
    · split
      · exact (confirmed.trans (latchSlot_kept _ _ _)).settled
      · exact confirmed.trans (makeRecord_kept _ pIn tIn)

theorem confirmExit_kept (s : State) (g : Geometry) (p : Pos) (t : Time) : Keeps s (confirmExit s g p t) := by
  have confirmed := trk_kept s { s.trk with exitEye := .confirmed }
  unfold confirmExit
  dsimp only
  split
  · exact confirmed
  · split
    · exact (confirmed.trans (latchSlot_kept _ _ _)).settled
    · split
      · exact confirmed.trans (completeBoard_kept _ _ _ _)
      · exact (confirmed.trans (latchSlot_kept _ _ _)).settled

theorem judgeLost_kept (s : State) (g : Geometry) : Keeps s (judgeLost s g) := by
  unfold judgeLost
  split
  · exact .refl s
  · split
    · exact ((completeBoard_kept s _ _ _).trans (latchSlot_kept _ _ _)).settled
    · exact .refl s

theorem judgeExitEye_kept (s : State) (g : Geometry) : Keeps s (judgeExitEye s g) := by
  unfold judgeExitEye
  split
  · split
    · exact confirmExit_kept s g _ _
    · exact .refl s
  · exact .refl s
  · exact .refl s

theorem judgeEntryEye_kept (s : State) (g : Geometry) : Keeps s (judgeEntryEye s g) := by
  unfold judgeEntryEye
  split
  · split
    · exact confirmEntry_kept s _ _
    · exact .refl s
  · exact .refl s
  · exact .refl s

theorem judgeReverse_kept (s : State) : Keeps s (judgeReverse s) :=
  (trk_kept s _).trans (judgeSlot_kept _ _ _ (notPhase_of (.inr (by decide))))

theorem positionChange_kept (s : State) (g : Geometry) : Keeps s (positionChange s g) := by
  have windows := ((judgeReverse_kept s).settled.trans (judgeAllWindows_kept _)).trans (judgeContacts_kept _)
  have exits := ((windows.trans (judgeExitEye_kept _ g)).trans (judgeLost_kept _ g)).trans (judgeContacts_kept _)
  exact (exits.trans (judgeEntryEye_kept _ g)).settled

theorem applyCount_kept (s : State) (n : Int) : Keeps s (applyCount s n) := by
  unfold applyCount
  split
  · exact .refl s
  · split
    · dsimp only
      split
      · exact (trk_kept s _).trans (positionChange_kept _ _)
      · exact trk_kept s _
    · split
      · split
        · exact (trk_kept s _).trans (positionChange_kept _ _)
        · exact trk_kept s _
      · exact .refl s

theorem fixLength_kept (s : State) (p : Pos) : Keeps s (fixLength s p) := by
  unfold fixLength
  split
  · exact (((updBoard_kept s p _).trans (judgeBoardWindows_kept _ p)).trans (judgeContacts_kept _)).settled
  · exact .refl s

theorem addAnnouncement_kept (s : State) (a : Announcement) : Keeps s (addAnnouncement s a) :=
  ((trk_kept s _).trans (exitSetback_kept _)).settled

theorem removeAnnouncement_kept (s : State) (tag : Nat) : Keeps s (removeAnnouncement s tag) := by
  unfold removeAnnouncement
  dsimp only
  refine Keeps.settled ?_
  split
  · exact (trk_kept s _).trans (judgeSetback_kept _)
  · exact trk_kept s _

theorem purge_kept (s : State) (withdraw : Bool) : Keeps s (purge s withdraw) := by
  have boards : Keeps s (purgeBoards s) := foldl_kept (fun u p => completeBoard_kept u p _ _) _ s
  have purged := (boards.trans (latchSlot_kept _ slotPurged s.trk.queue.length)).settled
  unfold purge
  dsimp only
  split
  · exact ((purged.trans (trk_kept _ _)).trans (judgeSetback_kept _)).settled
  · exact purged

/-! ### LNK (R170 to R176) -/

theorem lnk_kept (s : State) (x : Lnk) : Keeps s { s with lnk := x } := .of_heat rfl

theorem judgeInputHeld_kept (s : State) (i : SignalId) : Keeps s (judgeInputHeld s i) :=
  judgeSlot_kept s _ _ (notPhase_of (.inr (by decide)))

theorem leaveAwaited_kept (s : State) (i : SignalId) : Keeps s (leaveAwaited s i) := by
  unfold leaveAwaited
  split
  · exact .of_heat rfl
  · exact .refl s

theorem ownerSample_kept (s : State) (i : SignalId) (v : Int) : Keeps s (ownerSample s i v) := by
  unfold ownerSample
  split
  · exact zoneSample_kept s _ v
  · split
    · exact potSample_kept s
    · exact potSample_kept s
    · exact levelSample_kept s v
    · split
      · exact .refl s
      · exact feederOff_kept s
    · exact ductSample_kept s _ v
    · exact ductSample_kept s _ v
    · exact judgeFilter_kept s _ v
    · exact judgeFilter_kept s _ v
    · exact .refl s

theorem ownerLost_kept (s : State) (i : SignalId) : Keeps s (ownerLost s i) := by
  unfold ownerLost
  split
  · exact loopFault_kept s _ _
  · split
    · exact potClassChange_kept s
    · exact potClassChange_kept s
    · exact feederOff_kept s
    · exact ductLost_kept s _
    · exact ductLost_kept s _
    · exact filterLost_kept s _
    · exact filterLost_kept s _
    · exact .refl s

theorem becomeHeld_kept (s : State) (i : SignalId) : Keeps s (becomeHeld s i) :=
  (((lnk_kept s _).trans (judgeInputHeld_kept _ i)).trans (markDoubt_kept _)).settled

theorem becomeLost_kept (s : State) (i : SignalId) : Keeps s (becomeLost s i) :=
  ((((lnk_kept s _).trans (judgeInputHeld_kept _ i)).trans (ownerLost_kept _ i)).trans (markDoubt_kept _)).settled

theorem freshSample_kept (s : State) (i : SignalId) (v : Int) (seq : Nat) (producer : Byte) :
    Keeps s (freshSample s i v seq producer) := by
  have owned (u : State) : Keeps u (settle (markDoubt (ownerSample (leaveAwaited (judgeInputHeld u i) i) i v))) :=
    ((((judgeInputHeld_kept u i).trans (leaveAwaited_kept _ i)).trans (ownerSample_kept _ i v)).trans
      (markDoubt_kept _)).settled
  exact (lnk_kept s _).trans (owned _)

theorem expireLink_kept (s : State) : Keeps s (expireLink s) := by
  unfold expireLink
  split
  · exact raiseSlot_kept s _ (notPhase_of (.inl (by decide)))
  · exact .refl s

/-- Every PV gone: state, integral, demand and setpoint of each loop are as before (R71). -/
theorem dropPvs_kept (s : State) : Keeps s (dropPvs s) := by
  let u : State := { s with lpu := ⟨s.lpu.loops.map fun x => { x with pv := none }, .none⟩ }
  have loop (l : LoopId) : getLoop u l = { getLoop s l with pv := none } := by
    unfold getLoop; rw [Fin.getElem_fin, Fin.getElem_fin, Vector.getElem_map]
  have dropped : Keeps s u := by
    refine ⟨⟨firesLawfully_mono rfl (fun _ => le_rfl) fun g hg => ⟨hg, id, fun e l p _ _ _ => ⟨fun h => ?_, id⟩⟩,
      demandLaw_mono rfl fun l e _ w => ?_⟩, setpointLaw_mono rfl fun l => .inl ?_⟩
    · rw [loop]; exact h
    · rw [loop]; exact w
    · rw [loop]
  exact dropped.trans (judgeAllOvertemp_kept u)

theorem clearSignals_kept (s : State) : Keeps s (clearSignals s) := by
  have absent (u : State) : Keeps u (lowerSlot (dropPvs (lowerSlot u slotInputHeld)) slotPotDegraded) :=
    ((lowerSlot_kept u (notPhase_of (.inr (by decide)))).trans (dropPvs_kept _)).trans
      (lowerSlot_kept _ (notPhase_of (.inr (by decide))))
  have pressures (u : State) : Keeps u (filterLost (filterLost (ductLost (ductLost (feederOff u) hoodF) hoodP) hoodF) hoodP) :=
    ((((feederOff_kept u).trans (ductLost_kept _ _)).trans (ductLost_kept _ _)).trans (filterLost_kept _ _)).trans
      (filterLost_kept _ _)
  exact (((lnk_kept s _).trans (absent _)).trans (pressures _)).trans (markDoubt_kept _)

/-! ### The table commits (R32 to R46) -/

theorem expireLoopTimers_kept (s : State) : Keeps s (expireLoopTimers s) :=
  foldl_kept (fun u l => (expireWindow_kept u l).trans (expireSettle_kept _ l)) _ s

theorem commitPot_kept (s : State) : Keeps s (commitPot s) :=
  (((Keeps.refl s).settled.trans (judgeSetback_kept _)).trans (expireContactDwell_kept _)).trans (expireMaxRun_kept _)

theorem commitExtraction_kept (s : State) : Keeps s (commitExtraction s) :=
  ((Keeps.refl s).settled.trans (commitHood_kept _ hoodF)).trans (commitHood_kept _ hoodP)

theorem commitPhase_kept (s : State) (p : PhaseId) : Keeps s (commitPhase s p) := .of_heat rfl

theorem commitGates_kept (s : State) : Keeps s (commitGates s) := by
  have put (x : Vector Phase 3) (y : Vector Nat 7) : Keeps s { s with fal := { s.fal with phases := x, starve := y } } :=
    .of_heat rfl
  exact (put _ _).trans (foldl_kept (fun u l => lowerSlot_kept u (notPhase_starved l)) _ _)

/-- A commit of another table than those of the loops and the gates leaves what the laws read. -/
theorem tbs_kept (s : State) (b : Tbs) (gate : b.gate.active = s.tbs.gate.active)
    (loop : b.loop.active = s.tbs.loop.active) : Keeps s { s with tbs := b } :=
  .of_heat (by unfold heat; dsimp only; rw [gate, loop]; rfl)

/-- With every loop OFF no gate fires, whatever the gate table says (R33, R34). -/
theorem gateTable_kept (s : State) (x : Table Unit GateEntry 16) (off : allLoopsOff s = true) :
    Keeps s { s with tbs := { s.tbs with gate := x } } := by
  have dark (law : FiresLawfully s) (g : GateId) : s.fal.gates[g].firing = false := by
    by_contra on
    obtain ⟨-, e, l, p, -, -, -, -, active, -⟩ := law.2 g (Bool.eq_true_of_not_eq_false on)
    have resting : (getLoop s l).mode = .off := by
      simpa using List.all_eq_true.mp off l (mem_allLoops l)
    rw [resting] at active; cases active
  refine ⟨⟨fun law => ⟨law.1, fun g on => ?_⟩, demandLaw_mono rfl fun _ _ _ w => w⟩,
    setpointLaw_mono rfl fun _ => .inl rfl⟩
  exact absurd on (by rw [show ({ s with tbs := _ } : State).fal = s.fal from rfl, dark law g]; simp)

/-! #### The loop table (R38) -/

theorem clampLoop_other (s : State) {l j : LoopId} (h : j ≠ l) : getLoop (clampLoop s l) j = getLoop s j := by
  unfold clampLoop
  split
  · rfl
  · exact getLoop_updLoop_other s l j _ h

theorem clampLoop_tbs (s : State) (l : LoopId) : (clampLoop s l).tbs = s.tbs := by
  unfold clampLoop; split <;> rfl

theorem clampLoop_inRange (s : State) (l : LoopId) (e : LoopEntry) (h : activeLoop s l = some e) :
    LoopInRange e (getLoop (clampLoop s l) l) := by
  unfold clampLoop
  rw [h]
  dsimp only
  rw [getLoop_updLoop]
  exact ⟨min_le_right _ _, min_le_right _ _⟩

/-- The clamps of a loop-table commit put every integral and demand within its new range. -/
theorem clampLoops_demand (s : State) : DemandLaw (allLoops.foldl clampLoop s) := by
  intro l e he
  have tbs (m : List LoopId) (u : State) : (m.foldl clampLoop u).tbs = u.tbs :=
    foldl_keeps (fun u : State => u.tbs) clampLoop clampLoop_tbs m u
  have entry : activeLoop s l = some e := (activeLoop_of_tbs (tbs allLoops s) l).symm.trans he
  have own : ∀ (m : List LoopId) (u : State), u.tbs = s.tbs → l ∈ m ∨ LoopInRange e (getLoop u l) →
      LoopInRange e (getLoop (m.foldl clampLoop u) l) := by
    intro m
    induction m with
    | nil => exact fun u _ h => h.resolve_left (by simp)
    | cons a m ih =>
      intro u hu h
      refine ih _ ((clampLoop_tbs u a).trans hu) ?_
      by_cases same : l = a
      · subst same; exact .inr (clampLoop_inRange u l e ((activeLoop_of_tbs hu l).trans entry))
      · rw [clampLoop_other u same]
        exact h.imp_left fun m => (List.mem_cons.mp m).resolve_left same
  exact own allLoops s rfl (.inl (mem_allLoops l))

theorem commitLoops_kept (s : State) (x : Table Unit LoopEntry 7) :
    Keeps s (commitLoops { s with tbs := { s.tbs with loop := x } }) := by
  let u : State := { s with tbs := { s.tbs with loop := x } }
  have put : (FiresLawfully s → FiresLawfully u) ∧ (SetpointLaw s → SetpointLaw u) :=
    ⟨firesLawfully_mono rfl (fun _ => le_rfl) fun g hg => ⟨hg, id, fun _ _ _ _ _ _ => ⟨id, id⟩⟩,
      setpointLaw_mono rfl fun _ => .inl rfl⟩
  have clamped : Keeps s (allLoops.foldl clampLoop u) :=
    have kept := foldl_kept clampLoop_kept allLoops u
    ⟨⟨fun h => kept.firing (put.1 h), fun _ => clampLoops_demand u⟩, fun h => kept.setpoint (put.2 h)⟩
  exact clamped.settled.trans (expireLoopTimers_kept _)

/-- A commit of another table than the two of the heat leaves what the laws read, and so do its effects. -/
theorem commitOther_kept {s t : State} (n : Nat) (gate : (s.tbs.commit n).gate.active = s.tbs.gate.active)
    (loop : (s.tbs.commit n).loop.active = s.tbs.loop.active)
    (effects : Keeps { s with tbs := s.tbs.commit n } t) : Keeps s (settle t) :=
  ((tbs_kept s _ gate loop).trans effects).settled

/-- Every commit keeps the laws: the table replaced, and its immediate effects (R32). -/
theorem commit_kept (s : State) (table : Nat) (h : commitRefusal s table = none) :
    Keeps s (commitEffects { s with tbs := s.tbs.commit table } table) := by
  unfold commitEffects
  split
  · have absent (u : State) : Keeps u (expireLink (clearSignals u)) :=
      (clearSignals_kept u).trans (expireLink_kept _)
    exact commitOther_kept 1 rfl rfl (absent _)
  · exact commitOther_kept 2 rfl rfl (trk_kept _ _)
  · exact (commitLoops_kept s _).settled
  · have off : allLoopsOff s = true := by
      by_contra on
      have no : allLoopsOff s = false := Bool.eq_false_of_not_eq_true on
      unfold commitRefusal at h
      split at h
      · cases h
      · simp [needsLoopsOff, no] at h
    exact ((gateTable_kept s _ off).trans (commitGates_kept _)).settled
  · exact commitOther_kept 5 rfl rfl (foldl_kept commitPhase_kept _ _)
  · exact commitOther_kept 6 rfl rfl (.refl _)
  · exact commitOther_kept 7 rfl rfl (.refl _)
  · have nozzles (u : State) : Keeps u (commitNozzles u) := .of_heat rfl
    exact commitOther_kept 8 rfl rfl ((nozzles _).trans (markDoubt_kept _))
  · exact commitOther_kept 9 rfl rfl (commitPot_kept _)
  · exact commitOther_kept 10 rfl rfl (commitExtraction_kept _)
  · exact commitOther_kept 11 rfl rfl (.refl _)
  · have same : s.tbs.commit table = s.tbs := by unfold Tbs.commit; split <;> simp_all
    rw [same]; exact .refl s

/-! ### The modes (R190 to R192) -/

theorem mdc_kept (s : State) (x : Mdc) : Keeps s { s with mdc := x } := .of_heat rfl

theorem endTest_kept (s : State) (c : TestEnd) : Keeps s (endTest s c) := flxOnly_kept (endTest_flxOnly s c)

theorem leaveMode_kept (s : State) : Keeps s (leaveMode s) := by
  unfold leaveMode
  split
  · exact (endTest_kept s _).trans (endJog_kept _)
  · exact mdc_kept s _
  · exact .refl s
  · exact .refl s

theorem enterMode_kept (s : State) : Keeps s (enterMode s) := by
  unfold enterMode
  split
  · exact (mdc_kept s _).trans (judgeSetback_kept _)
  · exact .refl s
  · exact .refl s
  · exact .refl s

/-- A change of mode after an operation that may have changed the limits. -/
theorem changeMode_kept_of {s u : State} (h : KeepsPower s u) (m : Mode) : Keeps s (changeMode u m) :=
  settleSpeed_kept_of (((h.trans (leaveMode_kept u).toKeepsPower).trans (mdc_kept _ _).toKeepsPower).trans
    (enterMode_kept _).toKeepsPower)

theorem changeMode_kept (s : State) (m : Mode) : Keeps s (changeMode s m) :=
  changeMode_kept_of (Keeps.refl s).toKeepsPower m

/-! ### The limits store at its start (R194) -/

theorem completeStartRead_kept (s : State) : Keeps s (completeStartRead s) := by
  have ended : KeepsPower s (endStore s) := limits_power s _
  have hours (u : State) : Keeps u (takeHours u) := (updHood_kept u hoodF _).trans (updHood_kept _ hoodP _)
  unfold completeStartRead
  split
  · exact changeMode_kept_of ((ended.trans (checkAtStart_power _)).trans (hours _).toKeepsPower) _
  · exact .refl s
  · exact .refl s
  · exact .refl s

end Sys2Proof.PreheatLoops
end

section
/-! SUPPORT. The laws of the heat under half-cycles (R90 to R101), requests, frames, resets and every step. -/

namespace Sys2Proof.PreheatLoops

open Sys2Proof.Machine Sys2Proof.Safety Sys2Proof.SelectiveFluxing

/-! ### The half-cycle of a phase (R90) -/

/-- A change of the gates alone leaves the laws of the loops. -/
theorem gates_kept (s : State) (x : Vector Gate 16)
    (firing : FiresLawfully s → FiresLawfully { s with fal := { s.fal with gates := x } }) :
    Keeps s { s with fal := { s.fal with gates := x } } :=
  ⟨⟨firing, demandLaw_mono rfl fun _ _ _ w => w⟩, setpointLaw_mono rfl fun _ => .inl rfl⟩

theorem idlePhase_gate (s : State) (p : PhaseId) (g : GateId) : (idlePhase s p).fal.gates[g] =
    if gateOnPhase s p g then { s.fal.gates[g] with firing := false } else s.fal.gates[g] := by
  simp [idlePhase]

theorem idlePhase_credit (s : State) (p : PhaseId) (g : GateId) :
    (idlePhase s p).fal.gates[g].credit = s.fal.gates[g].credit := by
  rw [idlePhase_gate]; split <;> rfl

/-- A gate that fires with its phase idle is on another phase, and fired before. -/
theorem idlePhase_fires {s : State} {p : PhaseId} {g : GateId} (h : (idlePhase s p).fal.gates[g].firing = true) :
    gateOnPhase s p g = false ∧ s.fal.gates[g].firing = true := by
  rw [idlePhase_gate] at h
  split at h
  · cases h
  · next no => exact ⟨Bool.eq_false_of_not_eq_true no, h⟩

theorem idlePhase_kept (s : State) (p : PhaseId) : Keeps s (idlePhase s p) :=
  gates_kept s _ (firesLawfully_mono rfl (fun g => (idlePhase_credit s p g).le) fun _ hg =>
    ⟨(idlePhase_fires hg).2, id, fun _ _ _ _ _ _ => ⟨id, id⟩⟩)

theorem payCredits_gate (s : State) (p : PhaseId) (g : GateId) : (payCredits s p).fal.gates[g] =
    if gateOnPhase s p g then
      (if eligible s g then { s.fal.gates[g] with credit := min 2000 (s.fal.gates[g].credit + demandOf s g) }
       else { s.fal.gates[g] with credit := 0 })
    else s.fal.gates[g] := by
  simp [payCredits]

theorem payCredits_firing (s : State) (p : PhaseId) (g : GateId) :
    (payCredits s p).fal.gates[g].firing = s.fal.gates[g].firing := by
  rw [payCredits_gate]; split
  · split <;> rfl
  · rfl

/-- A payment stops at 2000 (R95). -/
theorem payCredits_kept (s : State) (p : PhaseId) : Keeps s (payCredits s p) := by
  refine gates_kept s _ fun ⟨bound, law⟩ => ⟨fun g => ?_, fun g hg => ?_⟩
  · change (payCredits s p).fal.gates[g].credit ≤ 2000
    rw [payCredits_gate]
    split
    · split
      · exact min_le_left _ _
      · exact Nat.zero_le _
    · exact bound g
  · exact law g ((payCredits_firing s p g).symm.trans hg)

/-- What eligibility says (R93). -/
theorem eligible_iff (s : State) (g : GateId) : eligible s g = true ↔ s.ilu.permit = true ∧ ∃ e l p,
    activeGate s g = some e ∧ e.loop = some l ∧ e.phase = some p ∧ e.enabled = some true ∧
    (getLoop s l).mode = .active ∧ s.ilu.slots[slotPhaseLost p].live = false := by
  have lost (p : PhaseId) : phaseLost s p = s.ilu.slots[slotPhaseLost p].live := rfl
  unfold eligible
  cases he : activeGate s g with
  | none => simp
  | some e =>
    cases hl : e.loop with
    | none => simp [hl]
    | some l =>
      cases hp : e.phase with
      | none => simp [hp]
      | some p => simp [hl, hp, lost]; tauto

theorem fireGates_gate (s : State) (l : List GateId) (g : GateId) : (fireGates s l).fal.gates[g] =
    if l.contains g then ⟨s.fal.gates[g].credit - 1000, true⟩ else s.fal.gates[g] := by
  simp [fireGates]

/-- Eligible gates fire by the law (R93). -/
theorem fireGates_kept (s : State) (l : List GateId) (h : ∀ g ∈ l, eligible s g = true) :
    Keeps s (fireGates s l) := by
  refine gates_kept s _ fun ⟨bound, law⟩ => ⟨fun g => ?_, fun g hg => ?_⟩
  · change (fireGates s l).fal.gates[g].credit ≤ 2000
    have before := bound g
    rw [fireGates_gate]
    split
    · dsimp only; omega
    · exact before
  · by_cases granted : g ∈ l
    · exact (eligible_iff s g).mp (h g granted)
    · have other : (fireGates s l).fal.gates[g] = s.fal.gates[g] := by
        rw [fireGates_gate, if_neg (by simpa using granted)]
      exact law g (by rw [← other]; exact hg)

/-- Only gates that were offered are granted. -/
theorem granted_offered (load : GateId → Nat) (l : List GateId) (o : Offers) (g : GateId)
    (h : g ∈ (l.foldl (offer load) o).granted) : g ∈ o.granted ∨ g ∈ l := by
  induction l generalizing o with
  | nil => exact .inl h
  | cons a l ih =>
    rcases ih _ h with one | rest
    · unfold offer at one
      split at one
      · rcases List.mem_append.mp one with old | new
        · exact .inl old
        · exact .inr (List.mem_cons.mpr (.inl (List.mem_singleton.mp new)))
      · exact .inl one
    · exact .inr (List.mem_cons_of_mem a rest)

theorem offered_eligible (s : State) (p : PhaseId) (g : GateId) (h : g ∈ offerOrder s p) : eligible s g = true := by
  have one (c : Fin 4) (m : g ∈ classOrder s p c) : eligible s g = true := by
    obtain ⟨-, offered⟩ := List.mem_filter.mp m
    simp only [candidate, Bool.and_eq_true] at offered
    obtain ⟨⟨⟨-, own⟩, -⟩, -⟩ := offered
    exact own
  unfold offerOrder at h
  simp only [List.mem_append] at h
  rcases h with ((h | h) | h) | h
  exacts [one 0 h, one 1 h, one 2 h, one 3 h]

theorem granted_eligible (s : State) (p : PhaseId) (budget : Nat) (g : GateId)
    (h : g ∈ (allocate s p budget).granted) : eligible s g = true :=
  offered_eligible s p g ((granted_offered _ _ _ _ h).resolve_left (by simp))

theorem starveLoop_kept (o : Offers) (s : State) (l : LoopId) : Keeps s (starveLoop o s l) := by
  have put (x : Vector Nat 7) : Keeps s { s with fal := { s.fal with starve := x } } := .of_heat rfl
  unfold starveLoop
  split
  · exact (put _).trans (lowerSlot_kept _ (notPhase_starved l))
  · split
    · exact .refl s
    · dsimp only
      split
      · exact (put _).trans (raiseSlot_kept _ _ (notPhase_starved l))
      · exact put _

theorem updPhase_kept (s : State) (p : PhaseId) (f : Phase → Phase) : Keeps s (updPhase s p f) := .of_heat rfl

theorem halfCycle_kept (s : State) (p : PhaseId) : Keeps s (halfCycle s p) := by
  have paid : Keeps s (payCredits (updPhase (idlePhase s p) p fun x => { x with budget := some (budgetNow s p) }) p) :=
    ((idlePhase_kept s p).trans (updPhase_kept _ p _)).trans (payCredits_kept _ p)
  unfold halfCycle
  dsimp only
  generalize payCredits (updPhase (idlePhase s p) p _) p = u at paid ⊢
  have fired := paid.trans (fireGates_kept u _ (granted_eligible u p (budgetNow s p)))
  exact (fired.trans (updPhase_kept _ p _)).trans (foldl_kept (starveLoop_kept _) _ _)

theorem slotPhaseLost_inj {p q : PhaseId} (h : slotPhaseLost q = slotPhaseLost p) : q = p := by
  have val := congrArg Fin.val h
  exact Fin.ext (by simpa [slotPhaseLost] using val)

/-- A phase found again lets no gate fire that fires already: its flag is a condition of firing alone. -/
theorem lowerPhase_kept (s : State) (p : PhaseId) : Keeps s (lowerSlot s (slotPhaseLost p)) := by
  refine ⟨⟨firesLawfully_mono rfl (fun _ => le_rfl) fun g hg =>
    ⟨hg, id, fun e l q _ _ _ => ⟨id, fun live => ?_⟩⟩, demandLaw_mono rfl fun _ _ _ w => w⟩,
    setpointLaw_mono rfl fun _ => .inl rfl⟩
  by_cases same : q = p
  · subst same; rw [Fin.getElem_fin, lowerSlot_same s _ 0]; rfl
  · rw [Fin.getElem_fin, lowerSlot_other fun e => same (slotPhaseLost_inj e)]
    exact live

theorem startHalfCycle_kept (s : State) (p : PhaseId) : Keeps s (startHalfCycle s p) := by
  have found := (lowerPhase_kept s p).settled
  unfold startHalfCycle
  generalize settle (lowerSlot s (slotPhaseLost p)) = u at found ⊢
  exact ((found.trans (updPhase_kept u p _)).trans (halfCycle_kept _ p)).settled

/-- A phase is lost with its gates idle (R91): what still fires is on another phase. -/
theorem losePhase_kept (s : State) (p : PhaseId) : Keeps s (losePhase s p) := by
  have lost : Keeps s (idlePhase (raiseSlot s (slotPhaseLost p) 0) p) := by
    refine ⟨⟨firesLawfully_mono rfl (fun g => (idlePhase_credit _ p g).le) fun g hg => ?_,
      demandLaw_mono rfl fun _ _ _ w => w⟩, setpointLaw_mono rfl fun _ => .inl rfl⟩
    obtain ⟨off, was⟩ := idlePhase_fires hg
    refine ⟨was, id, fun e l q he hl hq => ⟨id, fun live => ?_⟩⟩
    have entry : activeGate (raiseSlot s (slotPhaseLost p) 0) g = some e := he
    have other : slotPhaseLost q ≠ slotPhaseLost p := by
      intro same
      unfold gateOnPhase at off
      rw [entry] at off
      simp [hl, hq, slotPhaseLost_inj same] at off
    rw [Fin.getElem_fin, show (idlePhase (raiseSlot s (slotPhaseLost p) 0) p).ilu =
      (updSlot s (slotPhaseLost p) (AlarmSlot.raise 0)).ilu from rfl, updSlot_other _ _ _ _ other]
    exact live
  exact lost.settled

/-! ### Requests (R182) -/

theorem stageRequest_kept (s : State) (q : StageRequest) : Keeps s (stageRequest s q).1 := by
  unfold stageRequest
  split
  · cases q <;> exact tbs_kept s _ rfl rfl
  · exact .refl s

theorem discardRequest_kept (s : State) (n : Nat) : Keeps s (discardRequest s n).1 := by
  unfold discardRequest
  split
  · refine tbs_kept s _ ?_ ?_ <;> unfold Tbs.discard <;> split <;> rfl
  · exact .refl s

theorem commitRequest_kept (s : State) (n : Nat) : Keeps s (commitRequest s n).1 := by
  unfold commitRequest
  split
  · exact .refl s
  · split
    · exact .refl s
    · split
      · exact .refl s
      · next accepted =>
        split
        · exact .refl s
        · exact commit_kept s n accepted

theorem announceRequest_kept (s : State) (tag r : Nat) (e : Option Nat) (k : Bool) :
    Keeps s (announceRequest s tag r e k).1 := by
  unfold announceRequest
  split
  · exact .refl s
  · split
    · exact .refl s
    · split
      · exact .refl s
      · exact addAnnouncement_kept s _

theorem withdrawRequest_kept (s : State) (tag : Nat) : Keeps s (withdrawRequest s tag).1 := by
  unfold withdrawRequest
  split
  · exact .refl s
  · split
    · exact removeAnnouncement_kept s tag
    · exact .refl s

theorem clearLatches_kept (s : State) : Keeps s (clearLatches s) := by
  have slot (p : PhaseId) : phaseLost (clearLatches s) p = phaseLost s p := by
    unfold phaseLost isLive
    simp only [clearLatches, Fin.getElem_fin, Vector.getElem_map, AlarmSlot.acknowledge]
    split <;> rfl
  refine .of_heat ?_
  unfold heat
  rw [slot, slot, slot]; rfl

theorem alarmReadRequest_kept (s : State) (c : Bool) : Keeps s (alarmReadRequest s c).1 := by
  unfold alarmReadRequest
  dsimp only
  split
  · exact (clearLatches_kept s).settled
  · exact .refl s

theorem modeRequest_kept (s : State) (n : Nat) : Keeps s (modeRequest s n).1 := by
  unfold modeRequest
  split
  · exact .refl s
  · split
    · exact .refl s
    · split
      · exact .refl s
      · split
        · exact .refl s
        · exact changeMode_kept s _

theorem enableRequest_kept (s : State) (n : Nat) : Keeps s (enableRequest s n).1 := by
  unfold enableRequest
  split
  · exact .refl s
  · split_ifs
    · exact .refl s
    · exact .refl s
    · exact .refl s
    · exact .refl s
    · exact (loopOn_kept s _).settled

theorem disableRequest_kept (s : State) (n : Nat) : Keeps s (disableRequest s n).1 := by
  unfold disableRequest
  split
  · exact .refl s
  · split_ifs
    · exact .refl s
    · exact (loopOff_kept s _).settled

theorem clearFault_kept (s : State) (l : LoopId) : Keeps s (clearFault s l) := by
  let f : Loop → Loop := fun x => { x with mode := .active, causes := noCauses, integral := 0, demand := 0 }
  have cleared : Keeps s (lowerSlot (updLoop s l f) (slotRunaway l)) :=
    (updLoop_kept ⟨fun _ => rfl, Nat.zero_le _, Nat.zero_le _, rfl⟩).trans (lowerSlot_kept _ (notPhase_runaway l))
  unfold clearFault
  dsimp only
  refine Keeps.settled ?_
  split
  · exact cleared.trans (potEnter_kept _ _)
  · exact cleared

theorem clearLoopRequest_kept (s : State) (n : Nat) : Keeps s (clearLoopRequest s n).1 := by
  unfold clearLoopRequest
  split
  · exact .refl s
  · split_ifs
    · exact .refl s
    · exact .refl s
    · exact clearFault_kept s _

theorem potStartRequest_kept (s : State) : Keeps s (potStartRequest s).1 := by
  unfold potStartRequest
  split_ifs
  · exact .refl s
  · exact .refl s
  · exact .refl s
  · exact .refl s
  · exact ((potEnter_kept s _).trans (loopOn_kept _ _)).settled

theorem potStopRequest_kept (s : State) : Keeps s (potStopRequest s).1 := by
  unfold potStopRequest
  split
  · exact .refl s
  · exact (potEnter_kept s _).settled

theorem potSetbackRequest_kept (s : State) : Keeps s (potSetbackRequest s).1 := by
  unfold potSetbackRequest
  split
  · exact (potSetback_kept s).settled
  · exact .refl s

theorem potResumeRequest_kept (s : State) : Keeps s (potResumeRequest s).1 := by
  unfold potResumeRequest
  split
  · exact (potRecover_kept s).settled
  · exact .refl s

theorem jogRequest_kept (s : State) (d : Nat) : Keeps s (jogRequest s d).1 := by
  unfold jogRequest
  split
  · exact .refl s
  · exact pot_kept s _

theorem clearFeederRequest_kept (s : State) (i : Nat) : Keeps s (clearFeederRequest s i).1 := by
  unfold clearFeederRequest
  split
  · exact .refl s
  · exact pot_kept s _

theorem flx_kept (s : State) (x : Flx) : Keeps s { s with flx := x } := .of_heat rfl

theorem updNozzle_kept (s : State) (n : NozzleId) (f : Nozzle → Nozzle) : Keeps s (updNozzle s n f) := .of_heat rfl

theorem clearNozzleRequest_kept (s : State) (n : Nat) : Keeps s (clearNozzleRequest s n).1 := by
  unfold clearNozzleRequest
  split
  · exact .refl s
  · split
    · exact .refl s
    · exact (updNozzle_kept s _ _).settled

theorem testRequest_kept (s : State) (n d : Nat) : Keeps s (testRequest s n d).1 := by
  have started (n : NozzleId) : Keeps s (startTest s n d) :=
    ((flxOnly_kept (openValve_flxOnly s n .test)).trans (flx_kept _ _)).settled
  unfold testRequest
  split
  · exact .refl s
  · split
    · exact .refl s
    · split
      · exact .refl s
      · exact started _

theorem clearFilterRequest_kept (s : State) (n : Nat) : Keeps s (clearFilterRequest s n).1 := by
  have zeroed (h : HoodId) : Keeps s (zeroHours s h) := updHood_kept s h _
  unfold clearFilterRequest
  split
  · exact .refl s
  · split
    · exact .refl s
    · exact ((zeroed _).trans (handSave_kept _ _ _)).settled

theorem lockoutClearRequest_kept (s : State) : Keeps s (lockoutClearRequest s).1 := by
  have put (x : Exu) : Keeps s { s with exu := x } := .of_heat rfl
  unfold lockoutClearRequest
  split_ifs
  · exact .refl s
  · exact .refl s
  · exact ((put _).trans (lowerSlot_kept _ (k := slotLockout) (notPhase_of (.inr (by decide))))).settled

theorem limitsWriteRequest_kept (s : State) (f : LimitsFields) : Keeps s (limitsWriteRequest s f).1 := by
  unfold limitsWriteRequest
  split
  · exact .refl s
  · exact .of_heat rfl

/-- Whatever a request does, it keeps the laws. -/
theorem runRequest_kept (s : State) (q : Request) : Keeps s (runRequest s q).1 := by
  cases q with
  | tableRead t c f n => exact .refl s
  | tableStage q => exact stageRequest_kept s q
  | tableCommit t => exact commitRequest_kept s t
  | tableDiscard t => exact discardRequest_kept s t
  | announce tag r e k => exact announceRequest_kept s tag r e k
  | announceWithdraw tag => exact withdrawRequest_kept s tag
  | boardRead => exact trk_kept s _
  | alarmRead c => exact alarmReadRequest_kept s c
  | statusRead sec f => exact .refl s
  | modeSet t => exact modeRequest_kept s t
  | loopEnable l => exact enableRequest_kept s l
  | loopDisable l => exact disableRequest_kept s l
  | potStart => exact potStartRequest_kept s
  | potStop => exact potStopRequest_kept s
  | potSetback => exact potSetbackRequest_kept s
  | potResume => exact potResumeRequest_kept s
  | feederJog d => exact jogRequest_kept s d
  | trackPurge w => exact purge_kept s w
  | clearLoop l => exact clearLoopRequest_kept s l
  | clearNozzle n => exact clearNozzleRequest_kept s n
  | clearFilter h => exact clearFilterRequest_kept s h
  | clearFeeder i => exact clearFeederRequest_kept s i
  | lockoutClear => exact lockoutClearRequest_kept s
  | nozzleTest n d => exact testRequest_kept s n d
  | limitsRead => exact .refl s
  | limitsWrite f => exact limitsWriteRequest_kept s f
  | identRead => exact .refl s
  | reset => exact .refl s
  | unnamed k => exact .refl s

theorem updMge_kept (s : State) (f : Mge → Mge) : Keeps s (updMge s f) := .of_heat rfl

theorem dispatch_kept (s : State) (rid : Byte) (q : Request) : Keeps s (dispatch s rid q) := by
  have counted := updMge_kept s fun m => { m with dispatched := m.dispatched + 1 }
  have run := counted.trans (runRequest_kept _ q)
  unfold dispatch
  dsimp only
  split
  · next t r e => rw [e] at run; exact run.trans (updMge_kept _ _)
  · next t e =>
    rw [e] at run
    split
    · exact run.trans (updMge_kept _ _)
    · exact run

theorem arriveWhole_kept (s : State) (rid : Byte) (q : Request) : Keeps s (arriveWhole s rid q) :=
  (updMge_kept s _).trans (dispatch_kept _ rid q)

theorem answerDeferred_kept (s : State) (r : Reply) : Keeps s (answerDeferred s r) := by
  unfold answerDeferred
  split
  · exact .refl s
  · exact (updMge_kept s _).trans (updMge_kept _ _)

/-! ### Resets (R197) -/

/-- After a reset no gate fires, no table has an entry, and no limits are in force. -/
theorem reset_kept (s : State) {t : State} (gates : t.fal = Fal.afterReset) (tables : t.tbs = Tbs.afterReset)
    (limits : t.lst.limits = none) : Keeps s t := by
  have idle (g : GateId) : t.fal.gates[g] = ⟨0, false⟩ := by
    rw [gates]; simp [Fal.afterReset]
  have entry (l : LoopId) : activeLoop t l = none := by
    unfold activeLoop
    rw [tables]; simp [Tbs.afterReset, Table.empty, Table.at]
  have unbounded (l : LoopId) : hardMax t l = none := by unfold hardMax; rw [limits]; rfl
  refine ⟨⟨fun _ => ⟨fun g => ?_, fun g hg => ?_⟩, fun _ l e he => ?_⟩, fun _ l sp m _ hm => ?_⟩
  · rw [idle]; exact Nat.zero_le _
  · rw [idle] at hg; cases hg
  · rw [entry] at he; cases he
  · rw [unbounded] at hm; cases hm

theorem warmReset_kept (s : State) (c : ResetCause) : Keeps s (warmReset s c) := reset_kept s rfl rfl rfl

theorem powerOnReset_kept (s : State) : Keeps s (powerOnReset s) := by
  unfold powerOnReset
  split <;> exact reset_kept s rfl rfl rfl

theorem updLines_kept (s : State) (f : Lines → Lines) : Keeps s (updLines s f) := .of_heat rfl

theorem releaseRstn_kept (s : State) : Keeps s (releaseRstn s) := by
  unfold releaseRstn
  split
  · exact reset_kept s rfl rfl rfl
  · exact .refl s

/-! ### Frames (R168 to R183) -/

theorem readSlot_kept (s : State) (i : SignalId) (x : Slot) : Keeps s (readSlot s i x) := by
  have read := lnk_kept s (updSignal s i fun g => { g with lastQuality := some x.quality }).lnk
  unfold readSlot
  dsimp only
  split
  · split
    · exact read
    · exact read.trans (becomeLost_kept _ i)
  · split
    · exact read.trans (freshSample_kept _ i _ _ _)
    · exact read

theorem readConsumed_kept (f : Frame) (s : State) (i : SignalId) : Keeps s (readConsumed f s i) := by
  unfold readConsumed
  split
  · exact readSlot_kept s i _
  · exact .refl s

theorem stageConsume_kept (s : State) (f : Frame) : Keeps s (stageConsume s f) := by
  unfold stageConsume
  dsimp only
  split
  · exact (lnk_kept s _).trans (foldl_kept (readConsumed_kept f) _ _)
  · exact foldl_kept (readConsumed_kept f) _ _

theorem notWritten_kept (s : State) (j : Fin 10) : Keeps s (notWritten s j) := by
  unfold notWritten
  split
  · exact lnk_kept s _
  · exact .refl s

theorem writeProduced_kept (x : State × List Slot) (j : Fin 10) : Keeps x.1 (writeProduced x j).1 := by
  unfold writeProduced
  dsimp only
  split
  · exact notWritten_kept _ j
  · split
    · exact notWritten_kept _ j
    · exact lnk_kept _ _

theorem writeProduceds_kept (l : List (Fin 10)) (x : State × List Slot) : Keeps x.1 (l.foldl writeProduced x).1 := by
  induction l generalizing x with
  | nil => exact .refl x.1
  | cons j l ih => exact (writeProduced_kept x j).trans (ih (writeProduced x j))

theorem stageProduce_kept (s : State) (f : Frame) : Keeps s (stageProduce s f).1 := by
  unfold stageProduce
  dsimp only
  exact writeProduceds_kept _ (s, f.slots)

theorem offerArea_kept (s : State) (f : Frame) : Keeps s (offerArea s f).1 := by
  unfold offerArea
  split
  · split
    · exact .refl s
    · dsimp only; exact updMge_kept s _
  · exact .refl s

theorem completeRecord_kept (s : State) (rid : Byte) (l : List Byte) : Keeps s (completeRecord s rid l) := by
  unfold completeRecord
  split
  · exact updMge_kept s _
  · exact updMge_kept s _
  · exact dispatch_kept s rid _

theorem segmentArrives_kept (s : State) (g : Segment) : Keeps s (segmentArrives s g) := by
  unfold segmentArrives
  split
  · exact updMge_kept s _
  · exact (updMge_kept s _).trans (completeRecord_kept _ _ _)
  · exact updMge_kept s _
  · exact .refl s

theorem stageManage_kept (s : State) (f : Frame) : Keeps s (stageManage s f).1 := by
  unfold stageManage
  split
  · exact (segmentArrives_kept s _).trans (offerArea_kept _ _)
  · exact offerArea_kept s f

theorem goodArrival_kept (s : State) (f : Frame) : Keeps s (goodArrival s f) :=
  ((lnk_kept s _).trans (lowerSlot_kept _ (k := slotLinkLost) (notPhase_of (.inl (by decide))))).settled

theorem goodStages_kept (s : State) (f : Frame) : Keeps s (goodStages s f).1 :=
  (((goodArrival_kept s f).trans (stageConsume_kept _ f)).trans (rampPumps_kept _)).settled.trans
    (stageProduce_kept _ f)

theorem goodFrame_kept (s : State) (f : Frame) : Keeps s (goodFrame s f) := by
  have stages := (goodStages_kept s f).trans (stageManage_kept _ (goodStages s f).2)
  have sent (u : State) (l : List Byte) : Keeps u (forward u l) := lnk_kept u _
  unfold goodFrame
  dsimp only
  split
  · exact (stages.trans (sent _ _)).trans (warmReset_kept _ _)
  · exact stages.trans (sent _ _)

theorem frameArrives_kept (s : State) (l : List Byte) : Keeps s (frameArrives s l) := by
  unfold frameArrives
  split
  · exact goodFrame_kept s _
  · exact .of_heat rfl

/-! ### Lines, timers and storage -/

theorem entryActivated_kept (s : State) : Keeps s (entryActivated s) := by
  unfold entryActivated
  split
  · exact trk_kept s _
  · exact .refl s
  · exact .refl s

theorem exitActivated_kept (s : State) : Keeps s (exitActivated s) := by
  unfold exitActivated
  split
  · exact trk_kept s _
  · exact .refl s
  · exact .refl s

theorem entryDeactivated_kept (s : State) : Keeps s (entryDeactivated s) := by
  unfold entryDeactivated
  dsimp only
  split
  · exact (trk_kept s _).trans (fixLength_kept _ _)
  · exact trk_kept s _

theorem estopEdge_kept (s : State) (level : Bool) : Keeps s (estopEdge s level) :=
  ((updLines_kept s fun l => { l with estop := level }).trans
    (judgeSlot_kept _ (k := slotEstop) level 0 (notPhase_of (.inl (by decide))))).settled

theorem maintEdge_kept (s : State) (level : Bool) : Keeps s (maintEdge s level) := by
  have moved := updLines_kept s fun l => { l with maint := level }
  unfold maintEdge
  dsimp only
  split
  · exact moved.trans (changeMode_kept _ _)
  · exact moved

theorem stickValve_kept (s : State) (n : NozzleId) : Keeps s (stickValve s n) :=
  ((flxOnly_kept (stuckBar_flxOnly s n)).trans (latchSlot_kept _ _ _)).settled

theorem faultPump_kept (s : State) (p : Pump) : Keeps s (faultPump s p) :=
  (raiseSlot_kept s _ (notPhase_pump p)).settled

theorem expireDwell_kept (s : State) : Keeps s (expireDwell s) := flxOnly_kept (expireDwell_flxOnly s)

/-- The completion of a WRITE with its answer. -/
theorem writeCompleted_kept (s : State) (b : Block) (spoilt : Option (List Byte)) :
    Keeps s (answerDeferred (completeWrite s b spoilt) (writeReply (completeWrite s b spoilt))) :=
  (completeWrite_kept s b spoilt).trans (answerDeferred_kept _ _)

/-! ### Every command -/

/-- A command keeps the laws. -/
def CommandKeeps (s : State) (o : Out) : Prop := ∀ t, o = .next t → Keeps s t

theorem commandKeeps_next {s t : State} (h : Keeps s t) : CommandKeeps s (.next t) := by
  intro u e; cases e; exact h

theorem unlessHeld_kept {s u : State} (f : State → State) (start : Keeps s u) (h : Keeps u (f u)) :
    CommandKeeps s (unlessHeld u f) := by
  refine commandKeeps_next ?_
  split
  · exact start
  · exact start.trans h

theorem timed_kept (s : State) (due : State → Bool) (f : State → State) (h : Keeps s (f s)) :
    CommandKeeps s (unlessHeld s fun s => ifDue (due s) s (f s)) := by
  refine unlessHeld_kept _ (.refl s) ?_
  unfold ifDue
  split
  · exact h
  · exact .refl s

theorem request_kept (s : State) (rid : Byte) (q : Request) :
    CommandKeeps s (unlessHeld s fun s => arriveWhole s rid q) :=
  unlessHeld_kept _ (.refl s) (arriveWhole_kept s rid q)

/-- An edge of a line that does not stand at its new level already. -/
theorem edge_kept (s : State) {c : Prop} [Decidable c] (f : Lines → Lines) (g : State → State)
    (h : Keeps (updLines s f) (g (updLines s f))) :
    CommandKeeps s (if c then .next s else unlessHeld (updLines s f) g) := by
  split
  · exact commandKeeps_next (.refl s)
  · exact unlessHeld_kept g (updLines_kept s f) h

theorem reverseEdge_kept (s : State) {c : Prop} [Decidable c] (f : Lines → Lines) (g : State → State)
    (h : Keeps (updLines s f) (g (updLines s f))) :
    CommandKeeps s (if c then unlessHeld (updLines s f) g else .next s) := by
  split
  · exact unlessHeld_kept g (updLines_kept s f) h
  · exact commandKeeps_next (.refl s)

theorem assertRstn_kept (s : State) : Keeps s (assertRstn s) := .of_heat rfl

theorem takeSpeed_kept (s : State) : Keeps s (takeSpeed s) := by
  unfold takeSpeed; exact (trk_kept s _).settledSpeed

/-- A timer's expiry with `settle` after it. -/
theorem expiry_kept (s : State) (due : State → Bool) (f : State → State) (h : Keeps s (f s)) :
    CommandKeeps s (unlessHeld s fun s => ifDue (due s) s (settle (f s))) :=
  timed_kept s due (fun s => settle (f s)) h.settled

theorem writeCompletion_kept (spoilt : Option (List Byte)) (s : State) :
    CommandKeeps s (execWriteCompletion spoilt s) := by
  refine unlessHeld_kept _ (.refl s) ?_
  split
  · exact writeCompleted_kept s _ spoilt
  · exact .refl s

theorem saveCompletion_kept (spoilt : Option (List Byte)) (s : State) :
    CommandKeeps s (execSaveCompletion spoilt s) := by
  refine unlessHeld_kept _ (.refl s) ?_
  split
  · exact completeSave_kept s _ spoilt
  · exact .refl s

theorem exec_kept (i : Instr) (s : State) : CommandKeeps s (exec i s) := by
  cases i with
  | powerOnReset => exact commandKeeps_next (powerOnReset_kept s)
  | rstnReset => exact commandKeeps_next (releaseRstn_kept s)
  | rstnAssertion => exact commandKeeps_next (assertRstn_kept s)
  | startReadCompletion => exact unlessHeld_kept completeStartRead (.refl s) (completeStartRead_kept s)
  | encoderCount a b =>
    exact unlessHeld_kept (fun t => applyCount t (quadCount s.lines.encA s.lines.encB a b)) (updLines_kept s _)
      (applyCount_kept _ _)
  | entryEyeActivation => exact edge_kept s _ entryActivated (entryActivated_kept _)
  | entryEyeDeactivation => exact reverseEdge_kept s _ entryDeactivated (entryDeactivated_kept _)
  | exitEyeActivation => exact edge_kept s _ exitActivated (exitActivated_kept _)
  | exitEyeDeactivation => exact reverseEdge_kept s _ exitDeactivated (trk_kept _ _)
  | speedSample => exact timed_kept s sampleDue takeSpeed (takeSpeed_kept s)
  | zeroCrossEdge p => exact timed_kept s (edgeAccepted · p) (startHalfCycle · p) (startHalfCycle_kept s p)
  | phaseLossExpiry p => exact timed_kept s (phaseLossDue · p) (losePhase · p) (losePhase_kept s p)
  | estopEdge level => exact edge_kept s _ (Machine.estopEdge · level) (estopEdge_kept _ level)
  | maintLineEdge level => exact edge_kept s _ (maintEdge · level) (maintEdge_kept _ level)
  | frameArrival bytes => exact unlessHeld_kept (frameArrives · bytes) (.refl s) (frameArrives_kept s bytes)
  | holdTimeExpiry i => exact timed_kept s (holdDue · i) (becomeHeld · i) (becomeHeld_kept s i)
  | lostTimeExpiry i => exact timed_kept s (lostDue · i) (becomeLost · i) (becomeLost_kept s i)
  | absentTimeout i => exact timed_kept s (absentDue · i) (becomeLost · i) (becomeLost_kept s i)
  | linkTimeout => exact expiry_kept s linkDue expireLink (expireLink_kept s)
  | stuckValveExpiry n => exact timed_kept s (stuckDue · n) (stickValve · n) (stickValve_kept s n)
  | vapourDwellExpiry => exact expiry_kept s dwellOver expireDwell (expireDwell_kept s)
  | nozzleTestElapsed => exact expiry_kept s testDue (endTest · .elapsed) (endTest_kept s _)
  | runawayWindowExpiry l => exact expiry_kept s (runawayDue · l) (expireWindow · l) (expireWindow_kept s l)
  | settleTimerExpiry l => exact expiry_kept s (settleDue · l) (expireSettle · l) (expireSettle_kept s l)
  | setbackDelayExpiry => exact expiry_kept s setbackHolds potSetback (potSetback_kept s)
  | pumpFaultTimerExpiry p => exact timed_kept s (pumpFaultDue · p) (faultPump · p) (faultPump_kept s p)
  | dwellExpiry => exact expiry_kept s dwellDue expireContactDwell (expireContactDwell_kept s)
  | feederMaxRunExpiry => exact expiry_kept s maxRunDue expireMaxRun (expireMaxRun_kept s)
  | feederJogExpiry => exact expiry_kept s jogDue endJog (endJog_kept s)
  | graceExpiry h => exact expiry_kept s (graceDue · h) (expireGrace · h) (expireGrace_kept s h)
  | debounceExpiry h => exact expiry_kept s (debounceDue · h) (expireDebounce · h) (expireDebounce_kept s h)
  | lockoutTimerExpiry h => exact expiry_kept s (lockoutDue · h) (expireLockout · h) (expireLockout_kept s h)
  | filterTenthHour h => exact expiry_kept s (tenthDue · h) (accrue · h) (accrue_kept s h)
  | writeCompletion spoilt => exact writeCompletion_kept spoilt s
  | saveCompletion spoilt => exact saveCompletion_kept spoilt s
  | reset rid => exact unlessHeld_kept (warmReset · .resetRequest) (.refl s) (warmReset_kept s _)
  | tableRead rid t c f n => exact request_kept s rid (.tableRead t c f n)
  | tableStage rid items => exact request_kept s rid (.tableStage items)
  | tableCommit rid t => exact request_kept s rid (.tableCommit t)
  | tableDiscard rid t => exact request_kept s rid (.tableDiscard t)
  | announce rid tag r e k => exact request_kept s rid (.announce tag r e k)
  | announceWithdraw rid tag => exact request_kept s rid (.announceWithdraw tag)
  | boardRead rid => exact request_kept s rid .boardRead
  | alarmRead rid c => exact request_kept s rid (.alarmRead c)
  | statusRead rid sec f => exact request_kept s rid (.statusRead sec f)
  | modeSet rid t => exact request_kept s rid (.modeSet t)
  | loopSetEnable rid l => exact request_kept s rid (.loopEnable l)
  | loopSetDisable rid l => exact request_kept s rid (.loopDisable l)
  | potCommandStart rid => exact request_kept s rid .potStart
  | potCommandStop rid => exact request_kept s rid .potStop
  | potCommandSetback rid => exact request_kept s rid .potSetback
  | potCommandResume rid => exact request_kept s rid .potResume
  | feederJog rid d => exact request_kept s rid (.feederJog d)
  | trackPurge rid w => exact request_kept s rid (.trackPurge w)
  | faultClearLoop rid l => exact request_kept s rid (.clearLoop l)
  | faultClearNozzle rid n => exact request_kept s rid (.clearNozzle n)
  | faultClearFilter rid h => exact request_kept s rid (.clearFilter h)
  | faultClearFeeder rid i => exact request_kept s rid (.clearFeeder i)
  | lockoutClear rid => exact request_kept s rid .lockoutClear
  | nozzleTest rid n d => exact request_kept s rid (.nozzleTest n d)
  | limitsRead rid => exact request_kept s rid .limitsRead
  | limitsWrite rid f => exact request_kept s rid (.limitsWrite f)
  | identRead rid => exact request_kept s rid .identRead

theorem tick_kept (s : State) : Keeps s (tick s) := by
  unfold tick
  split
  · exact .refl s
  · exact .of_heat rfl

theorem step_kept {s t : State} (h : step s = .next t) : Keeps s t := by
  unfold step at h
  split at h
  · cases h; exact tick_kept s
  · next i rest _ =>
    have queue : Keeps s (s.withPending rest) := .of_heat rfl
    exact queue.trans (exec_kept i _ t h)

end Sys2Proof.PreheatLoops
end

section
/-! THEOREM. O58: every step keeps the laws of the heat. -/

namespace Sys2Proof.PreheatLoops

open Sys2Proof.Machine Sys2Proof.Safety

/-- Settles O58: `step_kept`, in which every command is a composition of operations that keep the laws. -/
theorem stepKeepsFiringAndLoops : Obligations.StepKeepsFiringAndLoops := by
  unfold Obligations.StepKeepsFiringAndLoops
  refine ⟨fun s t bound law next => ?_, fun s t setpoint demand next => ?_⟩
  · exact (step_kept next).firing ⟨bound, law⟩
  · exact ⟨(step_kept next).setpoint setpoint, (step_kept next).demand demand⟩

end Sys2Proof.PreheatLoops
end

section
/-! SUPPORT. The control law as the six steps of R78. -/

namespace Sys2Proof.PreheatLoops

open Sys2Proof.Machine Sys2Proof.Safety Sys2Proof.SelectiveFluxing

theorem clamp_eq {lo hi : Int} (h : lo ≤ hi) (x : Int) : clamp lo hi x = max lo (min hi x) := by
  unfold clamp; split
  · omega
  · split <;> omega

/-- The error of step 1 (R78). -/
def lawError (sp pv : Int) : Int := max (-500) (min 500 (sp - pv))

/-- The integral's candidate of step 3. -/
def lawCandidate (e : LoopEntry) (sp pv : Int) (integral : Nat) : Int := integral + e.ki * lawError sp pv

/-- The demand before its limits, from an integral. -/
def lawSum (e : LoopEntry) (sp pv : Int) (integral : Int) (ff : Nat) : Int :=
  Int.fdiv (e.kp * lawError sp pv) 16 + Int.fdiv integral 256 + ff

/-- The integral of step 5: held where it would drive the demand further beyond its limits. -/
def lawIntegral (e : LoopEntry) (sp pv : Int) (integral ff : Nat) : Int :=
  let u := lawSum e sp pv (lawCandidate e sp pv integral) ff
  if ((e.umax : Int) < u ∧ 0 < lawError sp pv) ∨ (u < 0 ∧ lawError sp pv < 0) then integral
  else max 0 (min ((e.umax : Int) * 256) (lawCandidate e sp pv integral))

theorem lawIntegral_nonneg (e : LoopEntry) (sp pv : Int) (integral ff : Nat) :
    0 ≤ lawIntegral e sp pv integral ff := by
  unfold lawIntegral; dsimp only; split <;> omega

/-- The model's law is the six steps. -/
theorem controlLaw_steps (e : LoopEntry) (sp pv : Int) (integral ff : Nat) :
    ((controlLaw e sp pv integral ff).1 : Int) = lawIntegral e sp pv integral ff ∧
    ((controlLaw e sp pv integral ff).2 : Int) =
      max 0 (min (e.umax : Int) (lawSum e sp pv (lawIntegral e sp pv integral ff) ff)) := by
  have err : clamp (-500) 500 (sp - pv) = lawError sp pv := clamp_eq (by omega) _
  have i : (if (decide ((e.umax : Int) < lawSum e sp pv (lawCandidate e sp pv integral) ff) &&
        decide (0 < lawError sp pv)) || (decide (lawSum e sp pv (lawCandidate e sp pv integral) ff < 0) &&
        decide (lawError sp pv < 0)) then (integral : Int)
      else clamp 0 (e.umax * 256) (lawCandidate e sp pv integral)) = lawIntegral e sp pv integral ff := by
    unfold lawIntegral
    rw [clamp_eq (by omega)]
    simp
  have model : controlLaw e sp pv integral ff = ((lawIntegral e sp pv integral ff).toNat,
      (clamp 0 e.umax (lawSum e sp pv (lawIntegral e sp pv integral ff) ff)).toNat) := by
    rw [← i]
    unfold controlLaw proportional floorDiv lawSum lawCandidate
    rw [← err]
  rw [model, clamp_eq (by omega)]
  exact ⟨Int.toNat_of_nonneg (lawIntegral_nonneg e sp pv integral ff), Int.toNat_of_nonneg (le_max_left _ _)⟩

/-- An ACTIVE loop with setpoint, PV and entry takes the law's integral and demand. -/
theorem getLoop_applyLaw {s : State} {l : LoopId} {e : LoopEntry} {sp pv : Int}
    (mode : (getLoop s l).mode = .active) (hsp : (getLoop s l).setpoint = some sp)
    (hpv : (getLoop s l).pv = some pv) (he : activeLoop s l = some e) :
    getLoop (applyLaw s l) l = underLaw e sp pv (getLoop s l) := by
  rw [applyLaw_of mode hsp hpv he, getLoop_updLoop]; rfl

theorem applyLaw_other (s : State) {l k : LoopId} (h : k ≠ l) : getLoop (applyLaw s l) k = getLoop s k := by
  rcases applyLaw_cases s l with same | ⟨pv, sp, e, mode, hpv, hsp, he⟩
  · rw [same]
  · rw [applyLaw_of mode hsp hpv he, getLoop_updLoop_other _ _ _ _ h]

theorem lawError_bounds (sp pv : Int) : -500 ≤ lawError sp pv ∧ lawError sp pv ≤ 500 := by
  unfold lawError; omega

/-- A gain of one byte times the error. -/
theorem gain_bounds {k : Nat} (h : k ≤ 255) (sp pv : Int) :
    -127500 ≤ (k : Int) * lawError sp pv ∧ (k : Int) * lawError sp pv ≤ 127500 := by
  obtain ⟨lo, hi⟩ := lawError_bounds sp pv
  constructor <;> nlinarith

end Sys2Proof.PreheatLoops
end

section
/-! THEOREM. O26: the control law. -/

namespace Sys2Proof.PreheatLoops

open Sys2Proof.Machine Sys2Proof.Safety

/-- Settles O26: `controlLaw_steps` for the steps, `controlLaw_bounds` for the ranges. -/
theorem controlLaw : Obligations.ControlLaw := by
  unfold Obligations.ControlLaw
  intro s l e sp pv mode hsp hpv he err prop cand u i d
  obtain ⟨integral, demand⟩ := controlLaw_steps e sp pv (getLoop s l).integral (getLoop s l).ff
  obtain ⟨range, below⟩ := controlLaw_bounds e sp pv (getLoop s l).integral (getLoop s l).ff
  rw [getLoop_applyLaw mode hsp hpv he]
  refine ⟨integral, demand, below, range, fun none zero => ?_, by decide, fun kp => ?_,
    fun ki => gain_bounds ki sp pv, fun k h => applyLaw_other s h⟩
  · have i0 := range (by omega)
    rw [none] at i0 below
    exact ⟨Nat.le_zero.mp i0, Nat.le_zero.mp below⟩
  · have bounds := gain_bounds kp sp pv
    have quotient : prop = (e.kp * lawError sp pv) / 16 := Int.fdiv_eq_ediv_of_nonneg _ (by omega)
    generalize (e.kp : Int) * lawError sp pv = x at bounds quotient
    omega

end Sys2Proof.PreheatLoops
end

section
/-! SUPPORT. The setpoint of a zone by its controlling board, and the band (R74 to R76, R84, R85). -/

namespace Sys2Proof.PreheatLoops

open Sys2Proof.Machine Sys2Proof.Safety Sys2Proof.SelectiveFluxing

theorem isOpen_zone (b : Board) (k : ZoneId) : b.isOpen (.zone k) = true ↔ b.windows.zone[k] = .opened := by
  unfold Board.isOpen Windows.get; exact decide_eq_true_iff

/-- A zone has no controlling board while no window of it is open (R74). -/
theorem controllingBoard_none {s : State} {k : ZoneId} (h : ∀ b ∈ s.trk.queue, b.windows.zone[k] ≠ .opened) :
    controllingBoard s k = none :=
  List.find?_eq_none.mpr fun b hb isOpen => h b hb ((isOpen_zone b k).mp isOpen)

/-- The controlling board of a zone is the oldest whose window is open (R74). -/
theorem controllingBoard_oldest {s : State} {k : ZoneId} {older newer : List Board} {b : Board}
    (queue : s.trk.queue = older ++ b :: newer) (before : ∀ y ∈ older, y.windows.zone[k] ≠ .opened)
    (opened : b.windows.zone[k] = .opened) : controllingBoard s k = some b := by
  have none : older.find? (fun b => b.isOpen (.zone k)) = none :=
    List.find?_eq_none.mpr fun y hy isOpen => before y hy ((isOpen_zone y k).mp isOpen)
  unfold controllingBoard
  rw [queue, List.find?_append, none, Option.none_or]
  exact List.find?_cons_of_pos (p := fun b : Board => b.isOpen (.zone k)) ((isOpen_zone b k).mpr opened)

theorem ownSetpoint_of {s : State} {k : ZoneId} {e : LoopEntry} (h : activeLoop s (zoneLoop k) = some e)
    (r : Option Recipe) : ownSetpoint s r k = some (zoneSetpoint s e r k) := by
  unfold ownSetpoint zoneSetpoint
  dsimp only
  cases own : r.bind fun r => r.zoneSp[k] with
  | none => rw [h]; simp [clampSetpoint_eq]
  | some x => simp [clampSetpoint_eq]

/-- A zone's own setpoint and feed-forward by its controlling board's recipe (R75). -/
theorem composed_zone {s : State} {k : ZoneId} {c : Option Board} (h : controllingBoard s k = c) (x : Loop) :
    let y := composed s (zoneLoop k) x
    let r := c.bind fun b => boardRecipe s b.data
    y.controller = c.map (fun b => b.data.tag) ∧ y.ff = (r.bind fun y => y.zoneFf[k]).getD 0 ∧
    (∀ e, activeLoop s (zoneLoop k) = some e → y.setpoint = some (zoneSetpoint s e r k)) ∧
    (activeLoop s (zoneLoop k) = none → y.setpoint = none) := by
  unfold composed
  rw [setpointOf_zone]
  unfold composeZone
  dsimp only
  rw [h]
  refine ⟨rfl, rfl, fun e he => ?_, fun none => ?_⟩
  · rw [if_pos (by rw [he]; rfl)]; exact ownSetpoint_of he _
  · rw [if_neg (by rw [none]; simp)]

/-- Loop P's setpoint by the state of the pot (R75). -/
theorem composePot_of {s : State} {e : PotEntry} (h : activePot s = some e) :
    composePot s = some (clamped s loopP (if s.pot.state = .setback then e.setbackSp else e.runSp)) := by
  unfold composePot runSetpoint
  rw [h]
  split <;> simp [clampSetpoint_eq]

theorem composePot_none {s : State} (h : activePot s = none) : composePot s = none := by
  unfold composePot runSetpoint
  rw [h]; split <;> rfl

theorem recomposed_setpoint (s : State) (l : LoopId) (x : Loop) :
    (recomposed s l x).setpoint = (setpointOf s l).1 := banded_setpoint _ _ _

theorem recomposed_controller (s : State) (l : LoopId) (x : Loop) :
    (recomposed s l x).controller = (setpointOf s l).2.1 := banded_controller _ _ _

theorem recomposed_ff (s : State) (l : LoopId) (x : Loop) : (recomposed s l x).ff = (setpointOf s l).2.2 :=
  banded_ff _ _ _

/-- A loop is in band after a judgement as R84 says. -/
theorem recomposed_inBand (s : State) (l : LoopId) (x : Loop) : (recomposed s l x).inBand = true ↔
    x.mode = .active ∧ ∃ pv sp e, x.pv = some pv ∧ (recomposed s l x).setpoint = some sp ∧
      activeLoop s l = some e ∧ |pv - sp| ≤ e.band := by
  rw [recomposed_setpoint, recomposed, banded_inBand, bandHolds_iff]; rfl

/-- The settle timer at a judgement of the band (R85). -/
theorem recomposed_timer (s : State) (l : LoopId) (x : Loop) :
    let y := recomposed s l x
    (y.inBand = true → x.inBand = true → y.settleFrom = x.settleFrom ∧ y.settled = x.settled) ∧
    (y.inBand = true → x.inBand = false → y.settleFrom = some s.now) ∧
    (y.inBand = false → y.settleFrom = none ∧ y.settled = false) := by
  have same : (composed s l x).inBand = x.inBand := rfl
  unfold recomposed
  dsimp only
  rw [banded_inBand]
  unfold banded
  rw [same]
  refine ⟨fun holds was => ?_, fun holds was => ?_, fun no => ?_⟩
  · rw [holds, was]; exact ⟨rfl, rfl⟩
  · rw [holds, was]; rfl
  · rw [no]; exact ⟨rfl, rfl⟩

end Sys2Proof.PreheatLoops
end

section
/-! THEOREM. O27: the setpoints after every event. -/

namespace Sys2Proof.PreheatLoops

open Sys2Proof.Machine Sys2Proof.Safety Sys2Proof.SelectiveFluxing

/-- Settles O27: every loop stands after `settle` as `recomposed` in the state before. -/
theorem composedSetpoints : Obligations.ComposedSetpoints := by
  unfold Obligations.ComposedSetpoints
  intro s t
  have loop (l : LoopId) : getLoop t l = recomposed s l (getLoop s l) := getLoop_settle s l
  have zone (k : ZoneId) (c : Option Board) (h : controllingBoard s k = c) :
      (getLoop t (zoneLoop k)).controller = c.map (fun b => b.data.tag) ∧
      (getLoop t (zoneLoop k)).ff = ((c.bind fun b => boardRecipe s b.data).bind fun y => y.zoneFf[k]).getD 0 ∧
      (∀ e, activeLoop s (zoneLoop k) = some e → (getLoop t (zoneLoop k)).setpoint =
        some (zoneSetpoint s e (c.bind fun b => boardRecipe s b.data) k)) ∧
      (activeLoop s (zoneLoop k) = none → (getLoop t (zoneLoop k)).setpoint = none) := by
    rw [loop, recomposed, banded_controller, banded_ff, banded_setpoint]
    exact composed_zone h _
  refine ⟨(settle_frame s).loops, fun k => ⟨fun none => zone k _ (controllingBoard_none none),
    fun older b newer queue before opened => zone k _ (controllingBoard_oldest queue before opened)⟩, ?_, ?_,
    fun e he => ?_, fun none => ?_, fun l => ?_⟩
  · rw [loop, recomposed_controller]; rfl
  · rw [loop, recomposed_ff]; rfl
  · rw [loop, recomposed_setpoint]; exact composePot_of he
  · rw [loop, recomposed_setpoint]; exact composePot_none none
  · intro x y
    have judged : y = recomposed s l x := loop l
    rw [judged]
    exact ⟨recomposed_inBand s l x, recomposed_timer s l x⟩

end Sys2Proof.PreheatLoops
end

section
/-! SUPPORT. What the operations of LPU and of loop P's pot leave beside their loop, slot and pot state; LOOP_SET
(R69) case by case. -/

namespace Sys2Proof.PreheatLoops

open Sys2Proof.Machine Sys2Proof.Safety Sys2Proof.SelectiveFluxing

/-! ### Frames of the elementary changes -/

/-- An event of the process that names slots and loops alone. -/
structure Beside (s t : State) (ks : List SlotId) (ls : List LoopId) : Prop where
  process : ProcessOnly s t
  framed : Framed s t ks ls []

section
variable {s t u : State} {ks ks' : List SlotId} {ls ls' : List LoopId}

theorem Beside.trans (h : Beside s t ks ls) (k : Beside t u ks ls) : Beside s u ks ls :=
  ⟨processOnly_trans h.process k.process, framed_trans h.framed k.framed⟩

theorem Beside.mono (h : Beside s t ks ls) (hk : ks ⊆ ks') (hl : ls ⊆ ls') : Beside s t ks' ls' :=
  ⟨h.process, framed_mono h.framed hk hl (List.Subset.refl _)⟩

/-- One event after another, each with what it names. -/
theorem Beside.andThen (h : Beside s t ks ls) (k : Beside t u ks' ls') : Beside s u (ks ++ ks') (ls ++ ls') :=
  (h.mono (List.subset_append_left ks ks') (List.subset_append_left ls ls')).trans
    (k.mono (List.subset_append_right ks ks') (List.subset_append_right ls ls'))

/-- An event with the judgements after it. -/
theorem Beside.settled (h : Beside s t ks ls) : Beside s (settle t) ks ls :=
  h.trans ⟨(settle_frame t).process, framed_of_settled (settle_frame t) _ _ _⟩
end

theorem Beside.refl (s : State) (ks : List SlotId) (ls : List LoopId) : Beside s s ks ls :=
  ⟨processOnly_of_core rfl, framed_of_settled (settledFrame_of_core rfl (.inl rfl)) ks ls []⟩

/-- A change of the pot alone. -/
theorem pot_beside (s : State) (p : Pot) : Beside s { s with pot := p } [] [] where
  process := ⟨⟨rfl, rfl, rfl, rfl, rfl, rfl, rfl, rfl, rfl, rfl, rfl⟩, rfl, rfl⟩
  framed := ⟨loopsKept_of_eq rfl [], ⟨rfl, fun _ => ⟨rfl, rfl⟩⟩, fun _ _ => rfl, fun _ _ _ => rfl, fun _ _ => rfl,
    fun _ => .inl rfl⟩

theorem updSlot_beside (s : State) (k : SlotId) (f : AlarmSlot → AlarmSlot) : Beside s (updSlot s k f) [k] [] where
  process := ⟨⟨rfl, rfl, rfl, rfl, rfl, rfl, rfl, rfl, rfl, rfl, rfl⟩, rfl, rfl⟩
  framed := ⟨loopsKept_of_eq rfl [], ⟨rfl, fun _ => ⟨rfl, rfl⟩⟩, fun _ _ => rfl, updSlot_slotsKept s k f,
    fun _ _ => rfl, fun _ => .inl rfl⟩

theorem raiseSlot_beside (s : State) (k : SlotId) (d : Int) : Beside s (raiseSlot s k d) [k] [] :=
  updSlot_beside s k _

theorem lowerSlot_beside (s : State) (k : SlotId) : Beside s (lowerSlot s k) [k] [] := updSlot_beside s k _

theorem updLoop_beside (s : State) (l : LoopId) (f : Loop → Loop) : Beside s (updLoop s l f) [] [l] where
  process := ⟨⟨rfl, rfl, rfl, rfl, rfl, rfl, rfl, rfl, rfl, rfl, rfl⟩, rfl, rfl⟩
  framed := ⟨fun j hj => by
      unfold LoopKept
      rw [getLoop_updLoop_other s l j f (List.ne_of_not_mem_cons hj)]
      exact ⟨rfl, rfl, rfl, rfl, rfl, rfl⟩,
    ⟨rfl, fun _ => ⟨rfl, rfl⟩⟩, fun _ _ => rfl, fun _ _ _ => rfl, fun _ _ => rfl, fun _ => .inl rfl⟩

/-! ### The gates of a loop that leaves ACTIVE (R94, R100, R101) -/

theorem falStopLoop_starve (s : State) (l : LoopId) : (falStopLoop s l).fal.starve = s.fal.starve.set l 0 := rfl

theorem falStopLoop_beside (s : State) (l : LoopId) : Beside s (falStopLoop s l) [slotStarved l] [l] where
  process := ⟨⟨rfl, rfl, rfl, rfl, rfl, rfl, rfl, rfl, rfl, rfl, rfl⟩, rfl, rfl⟩
  framed := ⟨loopsKept_of_eq rfl [l], ⟨rfl, fun _ => ⟨rfl, rfl⟩⟩, fun _ _ => rfl, updSlot_slotsKept s _ _,
    fun j hj => by
      have other : l.val ≠ j.val := fun e => List.ne_of_not_mem_cons hj (Fin.ext e.symm)
      rw [falStopLoop_starve, Fin.getElem_fin, Fin.getElem_fin, Vector.getElem_set_ne _ _ other],
    fun g => by
      rw [falStopLoop_gate]; unfold gateStopped; rw [falStopLoop_gate]
      split
      · exact .inr rfl
      · exact .inl rfl⟩

/-- Its gates are stopped, its starve counter is 0 and STARVED not live. -/
structure GatesOff (s t : State) (l : LoopId) : Prop where
  starve : t.fal.starve[l] = 0
  starved : t.ilu.slots[slotStarved l].live = false
  gates : ∀ (g : GateId) (e : GateEntry), activeGate s g = some e → e.loop = some l → gateStopped t g

theorem falStopLoop_off (s : State) (l : LoopId) : GatesOff s (falStopLoop s l) l where
  starve := by rw [falStopLoop_starve, Fin.getElem_fin, Vector.getElem_set_self]
  starved := by
    have slot := updSlot_same s (slotStarved l) AlarmSlot.lower
    have slot : (falStopLoop s l).ilu.slots[(slotStarved l).val] = AlarmSlot.lower s.ilu.slots[(slotStarved l).val] :=
      slot
    rw [Fin.getElem_fin, slot]; rfl
  gates := fun g e he hl => by
    have own : gateOfLoop s l g = true := by unfold gateOfLoop; rw [he]; simp [hl]
    unfold gateStopped; rw [falStopLoop_gate, own]; rfl

theorem starved_notJudged (l : LoopId) : ¬ Judged (slotStarved l) := by
  unfold Judged slotStarved; simp only; omega

theorem runaway_notJudged (l : LoopId) : ¬ Judged (slotRunaway l) := by
  unfold Judged slotRunaway; simp only; omega

theorem overtemp_notJudged (l : LoopId) : ¬ Judged (slotOvertemp l) := by
  unfold Judged slotOvertemp; simp only; omega

/-- What an event leaves of a loop's gates that are off. -/
theorem GatesOff.after {s t u : State} {l : LoopId} {ks : List SlotId} {ls : List LoopId} {ns : List NozzleId}
    (h : GatesOff s t l) (k : Framed t u ks ls ns) (slot : slotStarved l ∉ ks) (loop : l ∉ ls) : GatesOff s u l where
  starve := (k.starve l loop).trans h.starve
  starved := by rw [k.slots _ (starved_notJudged l) slot]; exact h.starved
  gates := fun g e he hl => by
    rcases k.gates g with same | stopped
    · unfold gateStopped; rw [same]; exact h.gates g e he hl
    · exact stopped

/-! ### A request of LPU or POT that is carried out (R182) -/

/-- The state after a request: the owner's, with the answer. -/
def replied (s t : State) (rid : Byte) (kind : Nat) (r : Reply) : State := { t with mge := answered s rid kind r }

/-- The request's frame is that of what its owner did. -/
theorem replied_beside {s t : State} {ks : List SlotId} {ls : List LoopId} (rid : Byte) (kind : Nat) (r : Reply)
    (h : Beside (arrived s) t ks ls) : Untouched s (replied s t rid kind r) ∧ t.trk = s.trk ∧
      Framed s (replied s t rid kind r) ks ls [] := by
  obtain ⟨process, framed⟩ := h
  exact ⟨⟨process.lines, process.now, process.tbs, process.lnk, process.mdc, process.phases, process.storage,
    process.limits, process.block, process.freeIndex, process.pending⟩, process.trk,
    ⟨framed.loops, framed.hoods, framed.nozzles, framed.slots, framed.starve, framed.gates⟩⟩

theorem replied_potKept {s t : State} (rid : Byte) (kind : Nat) (r : Reply) (h : PotKept (arrived s) t) :
    PotKept s (replied s t rid kind r) :=
  ⟨h.state, h.readyAt, h.idleFrom, h.contact, h.level, h.feeder, h.feederEnabled, h.grams, h.chip, h.main⟩

theorem exec_request {s : State} (run : Running s) (rid : Byte) (q : Request) :
    unlessHeld s (fun s => arriveWhole s rid q) = .next (arriveWhole s rid q) := unlessHeld_running run _

/-- A request refused, or one that finds nothing to do. -/
theorem request_only {s : State} (run : Running s) (rid : Byte) {q : Request} {r : Reply}
    (judged : runRequest (arrived s) q = (arrived s, some r)) :
    unlessHeld s (fun s => arriveWhole s rid q) = .next (onlyAnswered s rid q.kind r) := by
  rw [exec_request run, arriveWhole_only rid judged]

/-- A request carried out. -/
theorem request_replied {s t : State} (run : Running s) (rid : Byte) {q : Request} {r : Reply}
    (judged : runRequest (arrived s) q = (t, some r)) (mge : t.mge = (arrived s).mge) :
    unlessHeld s (fun s => arriveWhole s rid q) = .next (replied s t rid q.kind r) := by
  rw [exec_request run, arriveWhole_answered rid judged mge]; rfl

/-! ### LOOP_SET ENABLE (R69) -/

theorem zoneOf_val {l : LoopId} (h : l.val < 6) : zoneOf l.val = some l := by
  unfold zoneOf; rw [dif_pos h]

theorem zoneOf_none {n : Nat} (h : 6 ≤ n) : zoneOf n = none := by
  unfold zoneOf; rw [dif_neg (by omega)]

theorem enable_only {s : State} (run : Running s) (rid : Byte) {n : Nat} {r : Reply}
    (h : enableRequest (arrived s) n = (arrived s, r)) :
    exec (.loopSetEnable rid n) s = .next (onlyAnswered s rid 11 r) := by
  refine request_only run rid (q := .loopEnable n) ?_
  exact congrArg atOnce h

section
variable {s : State} {l : LoopId} (zone : l.val < 6) (mode : s.mdc.mode ≠ .starting)
  (committed : s.tbs.loop.committed = true)
include zone mode committed

/-- The checks of LOOP_SET ENABLE passed, down to the loop itself (R69). -/
theorem enableRequest_checked : enableRequest s l.val =
    if (getLoop s l).mode = .fault ∨ loopSignalLost s l = true then (s, refused .conditions)
    else if (getLoop s l).mode = .active then (s, loopReply s l)
    else (settle (loopOn s l), loopReply (settle (loopOn s l)) l) := by
  unfold enableRequest
  rw [zoneOf_val zone]
  simp only [if_neg mode, committed, Bool.true_eq_false, if_false]

theorem enableRequest_refused (h : (getLoop s l).mode = .fault ∨ loopSignalLost s l = true) :
    enableRequest s l.val = (s, refused .conditions) := by
  rw [enableRequest_checked zone mode committed, if_pos h]

theorem enableRequest_active (active : (getLoop s l).mode = .active) (signal : loopSignalLost s l = false) :
    enableRequest s l.val = (s, done (put8 1)) := by
  rw [enableRequest_checked zone mode committed, if_neg (by simp [active, signal]), if_pos active]
  unfold loopReply; rw [active]; rfl

theorem enableRequest_off (off : (getLoop s l).mode = .off) (signal : loopSignalLost s l = false) :
    enableRequest s l.val = (settle (loopOn s l), loopReply (settle (loopOn s l)) l) := by
  rw [enableRequest_checked zone mode committed, if_neg (by simp [off, signal]), if_neg (by simp [off])]
end

/-- A loop turned on, with the judgements after it (R67). -/
theorem settle_loopOn (s : State) (l : LoopId) :
    (getLoop (settle (loopOn s l)) l).mode = .active ∧
    (getLoop (settle (loopOn s l)) l).integral = (getLoop s l).integral ∧
    (getLoop (settle (loopOn s l)) l).demand = 0 := by
  obtain ⟨mode, -, -, integral, demand, -⟩ := (settle_frame (loopOn s l)).loops l List.not_mem_nil
  rw [mode, integral, demand]
  unfold loopOn
  rw [getLoop_updLoop]
  exact ⟨rfl, rfl, rfl⟩

theorem settle_loopOn_beside (s : State) (l : LoopId) : Beside s (settle (loopOn s l)) [] [l] :=
  (updLoop_beside s l _).settled

theorem settle_loopOn_pot (s : State) (l : LoopId) : PotKept s (settle (loopOn s l)) :=
  potKept_trans (t := loopOn s l) (potKept_of_eq rfl) (settle_frame (loopOn s l)).pot

theorem enable_off {s : State} (run : Running s) (rid : Byte) {l : LoopId} (zone : l.val < 6)
    (mode : s.mdc.mode ≠ .starting) (committed : s.tbs.loop.committed = true)
    (off : (getLoop s l).mode = .off) (signal : loopSignalLost s l = false) :
    ∃ t, exec (.loopSetEnable rid l.val) s = .next t ∧
      (getLoop t l).mode = .active ∧ (getLoop t l).integral = (getLoop s l).integral ∧
      (getLoop t l).demand = 0 ∧ t.mge = answered s rid 11 (done (put8 1)) ∧
      Untouched s t ∧ t.trk = s.trk ∧ Framed s t [] [l] [] ∧ PotKept s t := by
  have request := enableRequest_off (s := arrived s) zone mode committed off signal
  have beside := settle_loopOn_beside (arrived s) l
  have pot := settle_loopOn_pot (arrived s) l
  obtain ⟨active, integral, demand⟩ := settle_loopOn (arrived s) l
  generalize settle (loopOn (arrived s) l) = t at request beside pot active integral demand
  have reply : loopReply t l = done (put8 1) := by unfold loopReply; rw [active]; rfl
  rw [reply] at request
  have judged : runRequest (arrived s) (.loopEnable l.val) = (t, some (done (put8 1))) := congrArg atOnce request
  obtain ⟨untouched, trk, framed⟩ := replied_beside rid 11 (done (put8 1)) beside
  exact ⟨_, request_replied run rid judged beside.process.mge, active, integral, demand, rfl, untouched, trk, framed,
    replied_potKept rid 11 _ pot⟩

/-! ### LOOP_SET DISABLE (R67, R69, R94) -/

theorem disable_only {s : State} (run : Running s) (rid : Byte) {n : Nat} {r : Reply}
    (h : disableRequest (arrived s) n = (arrived s, r)) :
    exec (.loopSetDisable rid n) s = .next (onlyAnswered s rid 11 r) := by
  refine request_only run rid (q := .loopDisable n) ?_
  exact congrArg atOnce h

/-- The record of a loop turned off from ACTIVE. -/
def offFromActive (x : Loop) : Loop := { x.stopped with mode := .off }

/-- The record of a loop turned off from FAULT. -/
def offFromFault (x : Loop) : Loop := { x.stopped with mode := .off, causes := noCauses, integral := 0 }

theorem loopOff_active {s : State} {l : LoopId} (h : (getLoop s l).mode = .active) :
    loopOff s l = falStopLoop (updLoop s l offFromActive) l := by
  unfold loopOff; rw [h]; rfl

theorem loopOff_fault {s : State} {l : LoopId} (h : (getLoop s l).mode = .fault) :
    loopOff s l = lowerSlot (updLoop s l offFromFault) (slotRunaway l) := by
  unfold loopOff; rw [h]; rfl

theorem getLoop_loopOff_active {s : State} {l : LoopId} (h : (getLoop s l).mode = .active) :
    getLoop (loopOff s l) l = offFromActive (getLoop s l) := by
  rw [loopOff_active h, getLoop_of_lpu (t := falStopLoop _ _) (s := updLoop s l offFromActive) rfl, getLoop_updLoop]

theorem getLoop_loopOff_fault {s : State} {l : LoopId} (h : (getLoop s l).mode = .fault) :
    getLoop (loopOff s l) l = offFromFault (getLoop s l) := by
  rw [loopOff_fault h, getLoop_of_lpu (t := lowerSlot _ _) (s := updLoop s l offFromFault) rfl, getLoop_updLoop]

theorem loopOff_beside (s : State) (l : LoopId) : Beside s (loopOff s l) [slotStarved l, slotRunaway l] [l] := by
  have loop (f : Loop → Loop) := (updLoop_beside s l f).mono (List.nil_subset [slotStarved l, slotRunaway l])
    (List.Subset.refl [l])
  cases mode : (getLoop s l).mode with
  | off => rw [loopOff, mode]; exact .refl s _ _
  | active =>
    rw [loopOff_active mode]
    exact (loop _).trans ((falStopLoop_beside _ l).mono (by simp) (List.Subset.refl _))
  | fault =>
    rw [loopOff_fault mode]
    exact (loop _).trans ((lowerSlot_beside _ (slotRunaway l)).mono (by simp) (List.nil_subset _))

theorem loopOff_pot (s : State) (l : LoopId) : (loopOff s l).pot = s.pot := by
  unfold loopOff; split <;> rfl

theorem disable_on {s : State} (run : Running s) (rid : Byte) {l : LoopId} (zone : l.val < 6)
    (on : (getLoop s l).mode ≠ .off) : ∃ t, exec (.loopSetDisable rid l.val) s = .next t ∧
      (getLoop t l).mode = .off ∧ (getLoop t l).demand = 0 ∧ (getLoop t l).window = none ∧
      t.mge = answered s rid 11 (done (put8 0)) ∧ Untouched s t ∧ t.trk = s.trk ∧
      Framed s t [slotStarved l, slotRunaway l] [l] [] ∧ PotKept s t ∧
      ((getLoop s l).mode = .active → (getLoop t l).integral = (getLoop s l).integral ∧ t.fal.starve[l] = 0 ∧
        t.ilu.slots[slotStarved l].live = false ∧
        ∀ (g : GateId) (e : GateEntry), activeGate s g = some e → e.loop = some l → gateStopped t g) ∧
      ((getLoop s l).mode = .fault → (getLoop t l).integral = 0 ∧ (getLoop t l).causes = ⟨false, false, false⟩ ∧
        t.ilu.slots[slotRunaway l].live = false) := by
  obtain ⟨u, hu⟩ : ∃ u, u = loopOff (arrived s) l := ⟨_, rfl⟩
  have settled : Beside u (settle u) [] [] := (Beside.refl u [] []).settled
  have beside := (loopOff_beside (arrived s) l).settled
  have pot : PotKept (arrived s) (settle u) :=
    potKept_trans (potKept_of_eq (by rw [hu, loopOff_pot])) (settle_frame u).pot
  have request : disableRequest (arrived s) l.val = (settle u, loopReply (settle u) l) := by
    unfold disableRequest
    rw [zoneOf_val zone, hu]
    exact if_neg on
  rw [← hu] at beside
  generalize settle u = t at settled beside pot request
  obtain ⟨mode, causes, -, integral, demand, window⟩ := settled.framed.loops l List.not_mem_nil
  have loop : (getLoop u l).mode = .off ∧ (getLoop u l).demand = 0 ∧ (getLoop u l).window = none := by
    rw [hu]
    cases was : (getLoop s l).mode with
    | off => exact absurd was on
    | active => rw [getLoop_loopOff_active (s := arrived s) was]; exact ⟨rfl, rfl, rfl⟩
    | fault => rw [getLoop_loopOff_fault (s := arrived s) was]; exact ⟨rfl, rfl, rfl⟩
  obtain ⟨off, still, closed⟩ := loop
  have reply : loopReply t l = done (put8 0) := by unfold loopReply; rw [mode, off]; rfl
  rw [reply] at request
  have judged : runRequest (arrived s) (.loopDisable l.val) = (t, some (done (put8 0))) := congrArg atOnce request
  obtain ⟨untouched, trk, framed⟩ := replied_beside rid 11 (done (put8 0)) beside
  refine ⟨_, request_replied run rid judged beside.process.mge, mode.trans off, demand.trans still,
    window.trans closed, rfl, untouched, trk, framed, replied_potKept rid 11 _ pot, fun was => ?_, fun was => ?_⟩
  · have stopped : GatesOff (arrived s) u l := by
      rw [hu, loopOff_active (s := arrived s) was]
      obtain ⟨starve, starved, gates⟩ := falStopLoop_off (updLoop (arrived s) l offFromActive) l
      exact ⟨starve, starved, gates⟩
    obtain ⟨starve, starved, gates⟩ := stopped.after settled.framed List.not_mem_nil List.not_mem_nil
    refine ⟨integral.trans ?_, starve, starved, gates⟩
    rw [hu, getLoop_loopOff_active (s := arrived s) was]; rfl
  · have record : getLoop u l = offFromFault (getLoop s l) := by
      rw [hu, getLoop_loopOff_fault (s := arrived s) was]; rfl
    have slot : t.ilu.slots[slotRunaway l] = u.ilu.slots[slotRunaway l] :=
      settled.framed.slots _ (runaway_notJudged l) List.not_mem_nil
    have lowered : u.ilu.slots[slotRunaway l].live = false := by
      rw [hu, loopOff_fault (s := arrived s) was, Fin.getElem_fin, lowerSlot_same _ _ 0]; rfl
    rw [record] at integral causes
    refine ⟨integral, causes, ?_⟩
    rw [← slot] at lowered
    exact lowered

end Sys2Proof.PreheatLoops
end

section
/-! THEOREM. O23: LOOP_SET. -/

namespace Sys2Proof.PreheatLoops

open Sys2Proof.Machine Sys2Proof.Safety Sys2Proof.SelectiveFluxing

/-- Settles O23: the checks in the order of R69; what turns a loop on or off keeps its frame through `settle`. -/
theorem loopSet : Obligations.LoopSet := by
  unfold Obligations.LoopSet
  refine ⟨fun s rid n run => ⟨fun hn => ?_, fun hn mode => ?_, fun hn mode committed => ?_,
    fun l hl hn mode committed => ?_⟩, fun s rid n run => ⟨fun hn => ?_, fun l hl hn => ?_⟩⟩
  · exact enable_only run rid (by unfold enableRequest; rw [zoneOf_none hn])
  · refine enable_only run rid ?_
    unfold enableRequest
    rw [zoneOf_val (l := ⟨n, by omega⟩) hn]
    exact if_pos mode
  · refine enable_only run rid ?_
    unfold enableRequest
    rw [zoneOf_val (l := ⟨n, by omega⟩) hn]
    exact (if_neg mode).trans (if_pos committed)
  · subst hl
    refine ⟨fun bad => ?_, fun active signal => ?_, fun off signal => enable_off run rid hn mode committed off signal⟩
    · exact enable_only run rid (enableRequest_refused (s := arrived s) hn mode committed bad)
    · exact enable_only run rid (enableRequest_active (s := arrived s) hn mode committed active signal)
  · exact disable_only run rid (by unfold disableRequest; rw [zoneOf_none hn])
  · subst hl
    refine ⟨fun off => ?_, fun on => disable_on run rid hn on⟩
    refine disable_only run rid ?_
    unfold disableRequest
    rw [zoneOf_val hn]
    refine (if_pos off).trans ?_
    unfold loopReply
    rw [show getLoop (arrived s) l = getLoop s l from rfl, off]; rfl

end Sys2Proof.PreheatLoops
end

section
/-! SUPPORT. FAULT_CLEAR of a loop (R70). -/

namespace Sys2Proof.PreheatLoops

open Sys2Proof.Machine Sys2Proof.Safety Sys2Proof.SelectiveFluxing

theorem clearLoop_only {s : State} (run : Running s) (rid : Byte) {n : Nat} {r : Reply}
    (h : clearLoopRequest (arrived s) n = (arrived s, r)) :
    exec (.faultClearLoop rid n) s = .next (onlyAnswered s rid 14 r) := by
  refine request_only run rid (q := .clearLoop n) ?_
  exact congrArg atOnce h

/-- The judgement of a FAULT_CLEAR of a loop that the index names. -/
theorem clearLoopRequest_of (s : State) (l : LoopId) : clearLoopRequest s l.val =
    if (getLoop s l).mode ≠ .fault then (s, done (putBool false))
    else if causesGone s l = false then (s, refused .conditions)
    else (clearFault s l, done (putBool true)) := by
  unfold clearLoopRequest loopOf
  rw [dif_pos l.isLt]

/-- When every recorded cause of a loop fault is gone (R70). -/
theorem causesGone_iff (s : State) (l : LoopId) : causesGone s l = true ↔
    ((getLoop s l).causes.sensorLost = true → if l = loopP then classOf s sigPA = .usable ∨ classOf s sigPB = .usable
      else loopSignalLost s l = false) ∧
    ((getLoop s l).causes.overtemp = true → ∃ pv m, (getLoop s l).pv = some pv ∧ hardMax s l = some m ∧ pv ≤ m) := by
  have sensor : (if l = loopP then (decide (classOf s sigPA = .usable) || decide (classOf s sigPB = .usable))
      else !loopSignalLost s l) = true ↔
      (if l = loopP then classOf s sigPA = .usable ∨ classOf s sigPB = .usable else loopSignalLost s l = false) := by
    split <;> simp
  unfold causesGone
  dsimp only
  rw [Bool.and_eq_true, Bool.or_eq_true, Bool.or_eq_true, sensor, Bool.not_eq_true', Bool.not_eq_true']
  refine and_congr ?_ ?_
  · cases (getLoop s l).causes.sensorLost <;> simp
  · cases (getLoop s l).causes.overtemp
    · simp
    · cases (getLoop s l).pv <;> cases hardMax s l <;> simp

/-! ### The fault cleared -/

/-- The record of a loop whose fault is cleared. -/
def clearedLoop (x : Loop) : Loop := { x with mode := .active, causes := noCauses, integral := 0, demand := 0 }

/-- The state of LPU and its alarm with the fault cleared. -/
def lpuCleared (s : State) (l : LoopId) : State := lowerSlot (updLoop s l clearedLoop) (slotRunaway l)

theorem lpuCleared_beside (s : State) (l : LoopId) : Beside s (lpuCleared s l) [slotRunaway l] [l] :=
  (updLoop_beside s l clearedLoop).andThen (lowerSlot_beside _ (slotRunaway l))

/-- The pot after an entry to a heated state that keeps its times: HEATING, SETBACK or RECOVERING. -/
def potMoved (s : State) (st : PotState) : State := { s with pot := { s.pot with state := st, pumpsStarted := false } }

theorem potMoved_beside (s : State) (st : PotState) : Beside s (potMoved s st) [] [] := pot_beside s _

/-- FAULT_CLEAR before the judgements: loop P takes its pot from FAULT to HEATING (R110). -/
def faultCleared (s : State) (l : LoopId) : State :=
  if l = loopP ∧ s.pot.state = .fault then potMoved (lpuCleared s l) .heating else lpuCleared s l

theorem clearFault_eq (s : State) (l : LoopId) : clearFault s l = settle (faultCleared s l) := by
  unfold clearFault faultCleared; rfl

theorem faultCleared_lpu (s : State) (l : LoopId) : (faultCleared s l).lpu = (updLoop s l clearedLoop).lpu := by
  unfold faultCleared; split <;> rfl

theorem faultCleared_ilu (s : State) (l : LoopId) : (faultCleared s l).ilu = (lpuCleared s l).ilu := by
  unfold faultCleared; split <;> rfl

theorem faultCleared_loop (s : State) (l : LoopId) : getLoop (faultCleared s l) l = clearedLoop (getLoop s l) := by
  rw [getLoop_of_lpu (faultCleared_lpu s l), getLoop_updLoop]

theorem faultCleared_beside (s : State) (l : LoopId) : Beside s (faultCleared s l) [slotRunaway l] [l] := by
  unfold faultCleared
  split
  · exact (lpuCleared_beside s l).andThen (potMoved_beside _ _)
  · exact lpuCleared_beside s l

theorem faultCleared_slot (s : State) (l : LoopId) :
    (faultCleared s l).ilu.slots[slotRunaway l] = { s.ilu.slots[slotRunaway l] with live := false } := by
  rw [faultCleared_ilu, Fin.getElem_fin, Fin.getElem_fin]
  exact updSlot_same (updLoop s l clearedLoop) (slotRunaway l) AlarmSlot.lower

theorem faultCleared_potState {s : State} {l : LoopId} (p : l = loopP) (fault : s.pot.state = .fault) :
    (faultCleared s l).pot.state = .heating := by
  unfold faultCleared; rw [if_pos ⟨p, fault⟩]; rfl

theorem faultCleared_pot {s : State} {l : LoopId} (p : l ≠ loopP) : (faultCleared s l).pot = s.pot := by
  unfold faultCleared; rw [if_neg fun h => p h.1]; rfl

end Sys2Proof.PreheatLoops
end

section
/-! THEOREM. O24: FAULT_CLEAR of a loop. -/

namespace Sys2Proof.PreheatLoops

open Sys2Proof.Machine Sys2Proof.Safety Sys2Proof.SelectiveFluxing

/-- Settles O24: the checks of R70 in order, and `faultCleared` kept through `settle`. -/
theorem faultClearLoop : Obligations.FaultClearLoop := by
  unfold Obligations.FaultClearLoop
  intro s rid n run
  refine ⟨fun hn => ?_, fun l hl => ?_⟩
  · refine clearLoop_only run rid ?_
    unfold clearLoopRequest loopOf
    rw [dif_neg (by omega)]
  subst hl
  intro x sensorGone tempGone gone
  have causes : causesGone (arrived s) l = true ↔ gone := causesGone_iff (arrived s) l
  refine ⟨fun resting => ?_, fun fault no => ?_, fun fault yes => ?_⟩
  · exact clearLoop_only run rid ((clearLoopRequest_of (arrived s) l).trans (if_pos resting))
  · have standing : causesGone (arrived s) l = false := Bool.eq_false_of_not_eq_true fun h => no (causes.mp h)
    refine clearLoop_only run rid ((clearLoopRequest_of (arrived s) l).trans ?_)
    exact (if_neg (not_not.mpr fault)).trans (if_pos standing)
  · have cleared : causesGone (arrived s) l ≠ false := by rw [causes.mpr yes]; simp
    have request : clearLoopRequest (arrived s) l.val =
        (settle (faultCleared (arrived s) l), done (putBool true)) := by
      rw [clearLoopRequest_of, ← clearFault_eq]
      exact (if_neg (not_not.mpr fault)).trans (if_neg cleared)
    obtain ⟨u, hu⟩ : ∃ u, u = faultCleared (arrived s) l := ⟨_, rfl⟩
    have settled : Beside u (settle u) [] [] := (Beside.refl u [] []).settled
    have pot := (settle_frame u).pot
    have beside := (faultCleared_beside (arrived s) l).settled
    rw [← hu] at request beside
    generalize settle u = t at request settled pot beside
    have judged : runRequest (arrived s) (.clearLoop l.val) = (t, some (done (putBool true))) :=
      congrArg atOnce request
    obtain ⟨mode, recorded, pv, integral, demand, -⟩ := settled.framed.loops l List.not_mem_nil
    have record : getLoop u l = clearedLoop (getLoop s l) := by rw [hu, faultCleared_loop]; rfl
    rw [record] at mode recorded pv integral demand
    have slot : t.ilu.slots[slotRunaway l] = { s.ilu.slots[slotRunaway l] with live := false } := by
      rw [settled.framed.slots _ (runaway_notJudged l) List.not_mem_nil, hu, faultCleared_slot]; rfl
    obtain ⟨untouched, trk, framed⟩ := replied_beside rid 14 (done (putBool true)) beside
    refine ⟨_, request_replied run rid judged beside.process.mge, mode, recorded, integral, demand, pv,
      (congrArg AlarmSlot.live slot).trans rfl, (congrArg AlarmSlot.latched slot).trans rfl, fun p potFault => ?_,
      fun other => ?_, rfl, untouched, trk, framed⟩
    · refine pot.state.trans ?_
      rw [hu]; exact faultCleared_potState (s := arrived s) p potFault
    · refine replied_potKept rid 14 _ (potKept_trans (potKept_of_eq ?_) pot)
      rw [hu, faultCleared_pot other]

end Sys2Proof.PreheatLoops
end

section
/-! SUPPORT. The fault of a loop and of the pot (R67, R68, R94, R110). -/

namespace Sys2Proof.PreheatLoops

open Sys2Proof.Machine Sys2Proof.Safety Sys2Proof.SelectiveFluxing

/-! ### The feeder off (R126, R128) -/

/-- The feeder off, still enabled, its run accounted, in a pot that is as it was beside. -/
structure Unfed (s t : State) : Prop where
  feeder : t.pot.feeder = .off
  enabled : t.pot.feederEnabled = s.pot.feederEnabled
  grams : ∀ e t0, activePot s = some e → FedSince s t0 →
    t.pot.grams = min Config.max32 (s.pot.grams + e.feederRate * elapsed s.now t0 / 1000)

theorem feederOff_unfed (s : State) : Unfed s (feederOff s) := by
  have run (t0 : Time) (fed : FedSince s t0) : feederRun s = some (elapsed s.now t0) := by
    unfold feederRun
    rcases fed with on | ⟨d, jog⟩
    · rw [on]
    · rw [jog]
  unfold feederOff
  cases h : feederRun s with
  | none =>
    refine ⟨?_, rfl, fun e t0 _ fed => ?_⟩
    · unfold feederRun at h
      cases off : s.pot.feeder with
      | off => rfl
      | on t => rw [off] at h; cases h
      | jog t d => rw [off] at h; cases h
    · rw [run t0 fed] at h; cases h
  | some n =>
    refine ⟨rfl, rfl, fun e t0 he fed => ?_⟩
    rw [run t0 fed] at h; cases h
    rw [he]; rfl

theorem feederOff_beside (s : State) : Beside s (feederOff s) [] [] := by
  rw [(feederOff_potOnly s).1]; exact pot_beside s _

/-! ### The pot in FAULT (R110) -/

/-- The pot in FAULT: no idle reference time, pumps not started, its feeder off; level and contact as they were. -/
structure PotFaulted (s t : State) : Prop extends Unfed s t where
  state : t.pot.state = .fault
  idle : t.pot.idleFrom = none
  pumps : t.pot.pumpsStarted = false
  level : t.pot.level = s.pot.level
  contact : t.pot.contact = s.pot.contact

theorem feederOff_kept_pot (s : State) : (feederOff s).pot.state = s.pot.state ∧
    (feederOff s).pot.pumpsStarted = s.pot.pumpsStarted ∧ (feederOff s).pot.level = s.pot.level ∧
    (feederOff s).pot.contact = s.pot.contact := by
  unfold feederOff; split <;> exact ⟨rfl, rfl, rfl, rfl⟩

/-- The pot as an entry to FAULT finds it. -/
def potInFault (s : State) : State := { s with pot := { s.pot with state := .fault, pumpsStarted := false } }

theorem potEnter_fault_eq (s : State) : potEnter s .fault =
    { feederOff (potInFault s) with pot := { (feederOff (potInFault s)).pot with idleFrom := none } } := rfl

theorem potEnter_fault_potOnly (s : State) : potEnter s .fault = { s with pot := (potEnter s .fault).pot } := by
  rw [potEnter_fault_eq, (feederOff_potOnly (potInFault s)).1]; rfl

theorem potEnter_faulted (s : State) : PotFaulted s (potEnter s .fault) := by
  obtain ⟨feeder, enabled, grams⟩ := feederOff_unfed (potInFault s)
  obtain ⟨state, pumps, level, contact⟩ := feederOff_kept_pot (potInFault s)
  rw [potEnter_fault_eq]
  exact ⟨⟨feeder, enabled, grams⟩, state, rfl, pumps, level, contact⟩

/-- What an event leaves of a pot in FAULT. -/
theorem PotFaulted.kept {s t u : State} (h : PotFaulted s t) (k : PotKept t u)
    (pumps : u.pot.pumpsStarted = t.pot.pumpsStarted) : PotFaulted s u where
  feeder := k.feeder.trans h.feeder
  enabled := k.feederEnabled.trans h.enabled
  grams := fun e t0 he fed => k.grams.trans (h.grams e t0 he fed)
  state := k.state.trans h.state
  idle := k.idleFrom.trans h.idle
  pumps := pumps.trans h.pumps
  level := k.level.trans h.level
  contact := k.contact.trans h.contact

/-! ### The fault of a loop (R67, R68) -/

/-- The record of an ACTIVE loop that faults. -/
def faultRecord (c : Cause) (x : Loop) : Loop := { x.stopped with mode := .fault, causes := noCauses.add c }

/-- The record of a loop that a cause of fault meets. -/
def faulted (c : Cause) (x : Loop) : Loop :=
  match x.mode with
  | .off => x
  | .active => faultRecord c x
  | .fault => { x with causes := x.causes.add c }

theorem faulted_active {x : Loop} (h : x.mode = .active) (c : Cause) : faulted c x = faultRecord c x := by
  unfold faulted; rw [h]

theorem faulted_fault {x : Loop} (h : x.mode = .fault) (c : Cause) :
    faulted c x = { x with causes := x.causes.add c } := by
  unfold faulted; rw [h]

theorem faulted_off {x : Loop} (h : x.mode = .off) (c : Cause) : faulted c x = x := by
  unfold faulted; rw [h]

/-- A fault leaves PV, integral and setpoint, and an OFF loop OFF. -/
theorem faulted_fields (c : Cause) (x : Loop) : (faulted c x).pv = x.pv ∧ (faulted c x).integral = x.integral ∧
    (faulted c x).setpoint = x.setpoint ∧ ((faulted c x).mode = .off ↔ x.mode = .off) := by
  unfold faulted
  split <;> simp [*, faultRecord, Loop.stopped]

/-- A loop that has met a cause of fault is not ACTIVE. -/
theorem faulted_mode (c : Cause) (x : Loop) : (faulted c x).mode ≠ .active := by
  unfold faulted
  split <;> simp [*, faultRecord]

/-- An ACTIVE loop faulted: its record and its gates. -/
def darkened (s : State) (l : LoopId) (c : Cause) : State := falStopLoop (updLoop s l (faultRecord c)) l

theorem loopFaultOnly_active {s : State} {l : LoopId} (h : (getLoop s l).mode = .active) (c : Cause) :
    loopFaultOnly s l c = darkened s l c := by
  unfold loopFaultOnly; rw [h]; rfl

theorem loopFaultOnly_cases (s : State) (l : LoopId) (c : Cause) : loopFaultOnly s l c = s ∨
    loopFaultOnly s l c = darkened s l c ∨
    loopFaultOnly s l c = updLoop s l fun x => { x with causes := x.causes.add c } := by
  unfold loopFaultOnly
  split
  · exact .inl rfl
  · exact .inr (.inl rfl)
  · exact .inr (.inr rfl)

theorem getLoop_loopFaultOnly (s : State) (l : LoopId) (c : Cause) :
    getLoop (loopFaultOnly s l c) l = faulted c (getLoop s l) := by
  unfold loopFaultOnly
  split
  · next h => rw [faulted_off h]
  · next h => rw [faulted_active h]; exact getLoop_updLoop s l _
  · next h => rw [faulted_fault h]; exact getLoop_updLoop s l _

theorem darkened_beside (s : State) (l : LoopId) (c : Cause) : Beside s (darkened s l c) [slotStarved l] [l] :=
  (updLoop_beside s l _).andThen (falStopLoop_beside _ l) |>.mono (by simp) (by simp)

theorem darkened_off (s : State) (l : LoopId) (c : Cause) : GatesOff s (darkened s l c) l := by
  obtain ⟨starve, starved, gates⟩ := falStopLoop_off (updLoop s l (faultRecord c)) l
  exact ⟨starve, starved, gates⟩

/-- What a fault of loop P does to the pot beside: it is put, or left (R68). -/
theorem loopFault_cases (s : State) (l : LoopId) (c : Cause) :
    (l = loopP ∧ (getLoop s l).mode = .active ∧ loopFault s l c = potEnter (loopFaultOnly s l c) .fault) ∨
    (¬ (l = loopP ∧ (getLoop s l).mode = .active) ∧ loopFault s l c = loopFaultOnly s l c) := by
  unfold loopFault
  dsimp only
  by_cases h : l = loopP ∧ (getLoop s l).mode = .active
  · rw [if_pos h]; exact .inl ⟨h.1, h.2, rfl⟩
  · rw [if_neg h]; exact .inr ⟨h, rfl⟩

/-- A fault is the loop's own part, and the pot's. -/
theorem loopFault_potOnly (s : State) (l : LoopId) (c : Cause) :
    loopFault s l c = { loopFaultOnly s l c with pot := (loopFault s l c).pot } := by
  rcases loopFault_cases s l c with ⟨-, -, e⟩ | ⟨-, e⟩
  · rw [e]; exact potEnter_fault_potOnly _
  · rw [e]

theorem getLoop_loopFault (s : State) (l : LoopId) (c : Cause) :
    getLoop (loopFault s l c) l = faulted c (getLoop s l) := by
  rw [loopFault_potOnly, ← getLoop_loopFaultOnly]; rfl

theorem loopFaultOnly_beside (s : State) (l : LoopId) (c : Cause) :
    Beside s (loopFaultOnly s l c) [slotStarved l] [l] := by
  rcases loopFaultOnly_cases s l c with e | e | e <;> rw [e]
  · exact .refl s _ _
  · exact darkened_beside s l c
  · exact (updLoop_beside s l _).mono (List.nil_subset _) (List.Subset.refl _)

theorem loopFault_beside (s : State) (l : LoopId) (c : Cause) : Beside s (loopFault s l c) [slotStarved l] [l] := by
  rw [loopFault_potOnly]
  exact (loopFaultOnly_beside s l c).trans ((pot_beside _ _).mono (List.nil_subset _) (List.nil_subset _))

/-- A fault moves no slot but STARVED of its loop. -/
theorem loopFault_slot (s : State) (l : LoopId) (c : Cause) {k : SlotId} (h : k ≠ slotStarved l) :
    (loopFault s l c).ilu.slots[k.val] = s.ilu.slots[k.val] := by
  rw [loopFault_potOnly]
  change (loopFaultOnly s l c).ilu.slots[k.val] = s.ilu.slots[k.val]
  rcases loopFaultOnly_cases s l c with e | e | e <;> rw [e]
  · exact updSlot_other _ _ k _ h
  · rfl

/-- An ACTIVE loop that faults stops its gates (R94). -/
theorem loopFault_off {s : State} {l : LoopId} (h : (getLoop s l).mode = .active) (c : Cause) :
    GatesOff s (loopFault s l c) l := by
  obtain ⟨starve, starved, gates⟩ := darkened_off s l c
  rw [loopFault_potOnly, loopFaultOnly_active h]
  exact ⟨starve, starved, gates⟩

theorem loopFaultOnly_pot (s : State) (l : LoopId) (c : Cause) : (loopFaultOnly s l c).pot = s.pot := by
  rcases loopFaultOnly_cases s l c with e | e | e <;> rw [e] <;> rfl

theorem loopFaultOnly_tbs (s : State) (l : LoopId) (c : Cause) : (loopFaultOnly s l c).tbs = s.tbs :=
  (loopFaultOnly_beside s l c).process.tbs

/-- An ACTIVE loop P that faults takes the pot to FAULT (R68). -/
theorem loopFault_potFaulted {s : State} (h : (getLoop s loopP).mode = .active) (c : Cause) :
    PotFaulted s (loopFault s loopP c) := by
  rcases loopFault_cases s loopP c with ⟨-, -, e⟩ | ⟨no, -⟩
  · rw [e]
    obtain ⟨⟨feeder, enabled, grams⟩, state, idle, pumps, level, contact⟩ := potEnter_faulted (loopFaultOnly s loopP c)
    rw [loopFaultOnly_pot] at enabled level contact
    refine ⟨⟨feeder, enabled, fun a t0 ha fed => ?_⟩, state, idle, pumps, level, contact⟩
    have entry : activePot (loopFaultOnly s loopP c) = some a := (activePot_of_tbs (loopFaultOnly_tbs _ _ _)).trans ha
    have since : FedSince (loopFaultOnly s loopP c) t0 := by unfold FedSince; rw [loopFaultOnly_pot]; exact fed
    rw [grams a t0 entry since, loopFaultOnly_pot, (loopFaultOnly_beside s loopP c).process.now]
  · exact absurd ⟨rfl, h⟩ no

/-- Another loop's fault, and one of a loop P that is not ACTIVE, leaves the pot. -/
theorem loopFault_pot {s : State} {l : LoopId} (h : l = loopP → (getLoop s l).mode ≠ .active) (c : Cause) :
    (loopFault s l c).pot = s.pot := by
  rcases loopFault_cases s l c with ⟨p, active, -⟩ | ⟨-, e⟩
  · exact absurd active (h p)
  · rw [e, loopFaultOnly_pot]

theorem loopFault_potSource (s : State) (l : LoopId) (c : Cause) :
    (loopFault s l c).lpu.potSource = s.lpu.potSource := by
  rw [loopFault_potOnly]
  change (loopFaultOnly s l c).lpu.potSource = s.lpu.potSource
  rcases loopFaultOnly_cases s l c with e | e | e <;> rw [e] <;> rfl

end Sys2Proof.PreheatLoops
end

section
/-! SUPPORT. The expiries of the runaway window and of the settle timer (R83, R85). -/

namespace Sys2Proof.PreheatLoops

open Sys2Proof.Machine Sys2Proof.Safety Sys2Proof.SelectiveFluxing

theorem exec_runaway {s : State} (run : Running s) (l : LoopId) : exec (.runawayWindowExpiry l) s =
    .next (ifDue (runawayDue s l) s (settle (expireWindow s l))) :=
  unlessHeld_running run fun s => ifDue (runawayDue s l) s (settle (expireWindow s l))

theorem exec_settleTimer {s : State} (run : Running s) (l : LoopId) : exec (.settleTimerExpiry l) s =
    .next (ifDue (settleDue s l) s (settle (expireSettle s l))) :=
  unlessHeld_running run fun s => ifDue (settleDue s l) s (settle (expireSettle s l))

/-- After an operation and the judgements, its loops and slots stand as the operation left them. -/
theorem settle_loop (u : State) (l : LoopId) : LoopKept u (settle u) l := (settle_frame u).loops l List.not_mem_nil

theorem settle_slot_kept (u : State) {k : SlotId} (h : ¬ Judged k) : (settle u).ilu.slots[k] = u.ilu.slots[k] :=
  (settle_frame u).slots k h List.not_mem_nil

/-- Gates that are off stay off through the judgements. -/
theorem GatesOff.settled {s u : State} {l : LoopId} (h : GatesOff s u l) : GatesOff s (settle u) l :=
  h.after (Beside.refl u [] []).settled.framed List.not_mem_nil List.not_mem_nil

/-- A change of a loop's record alone leaves the pot. -/
theorem settle_updLoop_pot (s : State) (l : LoopId) (f : Loop → Loop) : PotKept s (settle (updLoop s l f)) :=
  potKept_trans (t := updLoop s l f) (potKept_of_eq rfl) (settle_frame _).pot

/-! ### RUNAWAY_WINDOW_EXPIRY (R83) -/

/-- A RUNAWAY fault with its alarm raised. -/
def runawayFaulted (s : State) (l : LoopId) (d : Int) : State := raiseSlot (loopFault s l .runaway) (slotRunaway l) d

section
variable {s : State} {l : LoopId} {w : Machine.RunawayWindow} {e : LoopEntry} {pv : Int}

theorem runawayDue_iff (window : (getLoop s l).window = some w) (entry : activeLoop s l = some e) :
    runawayDue s l = true ↔ e.runawayWindow * 1000 ≤ elapsed s.now w.start := by
  unfold runawayDue seconds
  simp only [window, entry, decide_eq_true_eq]

variable (window : (getLoop s l).window = some w) (value : (getLoop s l).pv = some pv)
  (entry : activeLoop s l = some e) (due : runawayDue s l = true)
include window value entry due

theorem expireWindow_held (held : loopHeld s l = true) :
    expireWindow s l = updLoop s l fun x => { x with window := none } := by
  unfold expireWindow
  simp only [due, window, value, entry, held, if_true]

theorem expireWindow_short (held : loopHeld s l = false) (short : pv - w.pvStart < e.runawayRise) :
    expireWindow s l = runawayFaulted s l (pv - w.pvStart) := by
  unfold expireWindow runawayFaulted
  simp only [due, window, value, entry, held, short, if_true, Bool.false_eq_true, if_false]

theorem expireWindow_risen (held : loopHeld s l = false) (risen : e.runawayRise ≤ pv - w.pvStart) :
    expireWindow s l = updLoop s l fun x => { x with window := some ⟨s.now, pv⟩ } := by
  unfold expireWindow
  simp only [due, window, value, entry, held, not_lt.mpr risen, if_true, Bool.false_eq_true, if_false]
end

/-- A window changed, with the judgements after it. -/
theorem windowPut_settled (s : State) (l : LoopId) (x : Option Machine.RunawayWindow) :
    let t := settle (updLoop s l fun y => { y with window := x })
    (getLoop t l).mode = (getLoop s l).mode ∧ (getLoop t l).window = x ∧ ProcessOnly s t ∧
      Framed s t [] [l] [] ∧ PotKept s t := by
  obtain ⟨mode, -, -, -, -, window⟩ := settle_loop (updLoop s l fun y => { y with window := x }) l
  rw [getLoop_updLoop] at mode window
  obtain ⟨process, framed⟩ := (updLoop_beside s l fun y => { y with window := x }).settled
  exact ⟨mode, window, process, framed, settle_updLoop_pot s l _⟩

theorem runawayFaulted_beside (s : State) (l : LoopId) (d : Int) :
    Beside s (runawayFaulted s l d) [slotRunaway l, slotStarved l] [l] :=
  ((loopFault_beside s l .runaway).andThen (raiseSlot_beside _ (slotRunaway l) d)).mono (by simp) (by simp)

theorem runaway_ne_starved (l : LoopId) : slotRunaway l ≠ slotStarved l := by
  intro h; have := congrArg Fin.val h; simp [slotRunaway, slotStarved] at this

theorem runawayFaulted_slot {s : State} {l : LoopId} (d : Int) (fresh : s.ilu.slots[slotRunaway l].live = false) :
    (runawayFaulted s l d).ilu.slots[slotRunaway l] = ⟨true, true, d⟩ := by
  rw [Fin.getElem_fin, show runawayFaulted s l d = updSlot (loopFault s l .runaway) (slotRunaway l) (AlarmSlot.raise d)
    from rfl, updSlot_same, loopFault_slot s l .runaway (runaway_ne_starved l)]
  unfold AlarmSlot.raise
  rw [← Fin.getElem_fin, fresh]; rfl

theorem runawayFaulted_off {s : State} {l : LoopId} (h : (getLoop s l).mode = .active) (d : Int) :
    GatesOff s (runawayFaulted s l d) l :=
  (loopFault_off h .runaway).after (raiseSlot_beside _ (slotRunaway l) d).framed
    (by simp [Ne.symm (runaway_ne_starved l)]) List.not_mem_nil

/-- A rise short of the runaway rise (R83). -/
theorem runaway_short {s : State} {l : LoopId} (active : (getLoop s l).mode = .active) (d : Int)
    (fresh : s.ilu.slots[slotRunaway l].live = false) :
    let t := settle (runawayFaulted s l d)
    (getLoop t l).mode = .fault ∧ (getLoop t l).causes = ⟨false, false, true⟩ ∧ (getLoop t l).demand = 0 ∧
      (getLoop t l).integral = (getLoop s l).integral ∧ (getLoop t l).window = none ∧
      t.ilu.slots[slotRunaway l] = ⟨true, true, d⟩ ∧ (l = loopP → t.pot.state = .fault) ∧
      (l ≠ loopP → PotKept s t) ∧
      (∀ (g : GateId) (x : GateEntry), activeGate s g = some x → x.loop = some l → gateStopped t g) ∧
      ProcessOnly s t ∧ Framed s t [slotRunaway l, slotStarved l] [l] [] := by
  have record : getLoop (runawayFaulted s l d) l = faultRecord .runaway (getLoop s l) :=
    (getLoop_loopFault s l .runaway).trans (faulted_active active _)
  have pot : (runawayFaulted s l d).pot = (loopFault s l .runaway).pot := rfl
  have slot := (settle_slot_kept (runawayFaulted s l d) (runaway_notJudged l)).trans (runawayFaulted_slot d fresh)
  have gates := (runawayFaulted_off active d).settled.gates
  have frame := (settle_frame (runawayFaulted s l d)).pot
  obtain ⟨process, framed⟩ := (runawayFaulted_beside s l d).settled
  obtain ⟨mode, causes, -, integral, demand, window⟩ := settle_loop (runawayFaulted s l d) l
  rw [record] at mode causes integral demand window
  refine ⟨mode, causes, demand, integral, window, slot, fun p => ?_, fun other => ?_, gates, process, framed⟩
  · subst p
    exact frame.state.trans (pot ▸ (loopFault_potFaulted active .runaway).state)
  · exact potKept_trans (potKept_of_eq (pot.trans (loopFault_pot (fun p => absurd p other) _))) frame

/-! ### SETTLE_TIMER_EXPIRY (R85, R107) -/

theorem settleDue_iff {s : State} {l : LoopId} {t0 : Time} {e : LoopEntry}
    (running : (getLoop s l).settleFrom = some t0) (entry : activeLoop s l = some e) :
    settleDue s l = true ↔ e.settle * 1000 ≤ elapsed s.now t0 := by
  unfold settleDue seconds
  simp only [running, entry, decide_eq_true_eq]

/-- The record of a loop that became settled. -/
def settledLoop (x : Loop) : Loop := { x with settleFrom := none, settled := true }

/-- A loop settled, and what loop P's settling tells the pot (R107). -/
def loopSettled (s : State) (l : LoopId) : State :=
  if l = loopP then potSettled (updLoop s l settledLoop) else updLoop s l settledLoop

theorem expireSettle_due {s : State} {l : LoopId} (due : settleDue s l = true) :
    expireSettle s l = loopSettled s l := by
  unfold expireSettle loopSettled
  rw [if_pos due]; rfl

/-- The pot's part of a settling is in the pot alone, and no entry to SETBACK or from it. -/
theorem potSettled_potOnly (s : State) : potSettled s = { s with pot := (potSettled s).pot } ∧
    ((potSettled s).pot.state = .setback ↔ s.pot.state = .setback) := by
  unfold potSettled
  split
  · next heats =>
    refine ⟨rfl, ?_⟩
    change PotState.ready = .setback ↔ s.pot.state = .setback
    rcases heats with h | h <;> rw [h] <;> simp
  · exact ⟨rfl, Iff.rfl⟩

theorem loopSettled_potOnly (s : State) (l : LoopId) :
    loopSettled s l = { updLoop s l settledLoop with pot := (loopSettled s l).pot } ∧
    ((loopSettled s l).pot.state = .setback ↔ s.pot.state = .setback) := by
  unfold loopSettled
  split
  · exact potSettled_potOnly (updLoop s l settledLoop)
  · exact ⟨rfl, Iff.rfl⟩

theorem settledLoop_beside (s : State) (l : LoopId) : Beside s (updLoop s l settledLoop) [] [] := by
  obtain ⟨process, framed⟩ := updLoop_beside s l settledLoop
  refine ⟨process, ⟨fun j _ => ?_, framed.hoods, framed.nozzles, framed.slots, fun _ _ => rfl, framed.gates⟩⟩
  rcases getLoop_updLoop_cases s l j settledLoop with ⟨-, e⟩ | e <;> unfold LoopKept <;> rw [e] <;>
    exact ⟨rfl, rfl, rfl, rfl, rfl, rfl⟩

theorem loopSettled_beside (s : State) (l : LoopId) : Beside s (loopSettled s l) [] [] := by
  rw [(loopSettled_potOnly s l).1]
  exact (settledLoop_beside s l).trans (pot_beside _ _)

theorem getLoop_loopSettled (s : State) (l : LoopId) : getLoop (loopSettled s l) l = settledLoop (getLoop s l) := by
  rw [(loopSettled_potOnly s l).1]
  exact getLoop_updLoop s l settledLoop

/-- The setpoint of a loop that settled is composed as it was. -/
theorem loopSettled_setpoint (s : State) (l : LoopId) : setpointOf (loopSettled s l) l = setpointOf s l := by
  obtain ⟨shape, setback⟩ := loopSettled_potOnly s l
  exact setpointOf_congr (by rw [shape]; rfl) (by rw [shape]; rfl) (by rw [shape]; rfl) setback l

/-- A loop that settles in band stays so: neither its setpoint nor its PV moves. -/
theorem loopSettled_recomposed {s : State} {l : LoopId} (inBand : (getLoop s l).inBand = true)
    (holds : inBandNow (compose s l) l = true) :
    let y := recomposed (loopSettled s l) l (settledLoop (getLoop s l))
    y.settled = true ∧ y.settleFrom = none ∧ y.inBand = true := by
  have band : bandHolds (composed (loopSettled s l) l (settledLoop (getLoop s l))) (activeLoop (loopSettled s l) l) =
      true := by
    rw [inBandNow_eq, compose_eq, getLoop_updLoop] at holds
    rw [composed_congr (loopSettled_setpoint s l), activeLoop_of_tbs (loopSettled_beside s l).process.tbs]
    exact holds
  have same : (composed (loopSettled s l) l (settledLoop (getLoop s l))).inBand = true := inBand
  unfold recomposed
  rw [band]
  unfold banded
  dsimp only
  rw [same]
  exact ⟨rfl, rfl, same⟩

theorem loopSettled_heated {s : State} (heats : s.pot.state = .heating ∨ s.pot.state = .recovering) :
    (loopSettled s loopP).pot.state = .ready ∧ (loopSettled s loopP).pot.readyAt = some s.now ∧
    (loopSettled s loopP).pot.idleFrom = some s.now := by
  have shape : loopSettled s loopP = potEnter (updLoop s loopP settledLoop) .ready := by
    unfold loopSettled potSettled
    rw [if_pos rfl]; exact if_pos heats
  rw [shape]; exact ⟨rfl, rfl, rfl⟩

theorem loopSettled_pot {s : State} {l : LoopId} (h : l ≠ loopP) : (loopSettled s l).pot = s.pot := by
  unfold loopSettled; rw [if_neg h]; rfl

end Sys2Proof.PreheatLoops
end

section
/-! THEOREM. O25: the loops' timers. -/

namespace Sys2Proof.PreheatLoops

open Sys2Proof.Machine Sys2Proof.Safety Sys2Proof.SelectiveFluxing

/-- Settles O25: `expireWindow` branch by branch; a loop that settles is recomposed in band. -/
theorem loopTimersEnd : Obligations.LoopTimersEnd := by
  unfold Obligations.LoopTimersEnd
  refine ⟨fun s l w e pv run active window value entry => ?_, fun s l t0 e run running entry => ⟨fun early => ?_,
    fun late inBand holds => ?_⟩⟩
  · intro c due
    have iff : runawayDue s l = true ↔ due := runawayDue_iff window entry
    have expires (h : due) : exec c s = .next (settle (expireWindow s l)) := by
      rw [exec_runaway run, ifDue_true (iff.mpr h)]
    refine ⟨fun early => ?_, fun late held => ?_, fun late held short fresh => ?_, fun late held risen => ?_⟩
    · rw [exec_runaway run, ifDue_false (Bool.eq_false_of_not_eq_true fun h => early (iff.mp h))]
    · obtain ⟨mode, rest⟩ := windowPut_settled s l none
      rw [expires late, expireWindow_held window value entry (iff.mpr late) held]
      exact ⟨_, rfl, mode.trans active, rest⟩
    · rw [expires late, expireWindow_short window value entry (iff.mpr late) held short]
      exact ⟨_, rfl, runaway_short active _ fresh⟩
    · obtain ⟨mode, rest⟩ := windowPut_settled s l (some ⟨s.now, pv⟩)
      rw [expires late, expireWindow_risen window value entry (iff.mpr late) held risen]
      exact ⟨_, rfl, mode.trans active, rest⟩
  · have no : settleDue s l = false :=
      Bool.eq_false_of_not_eq_true fun h => absurd ((settleDue_iff running entry).mp h) (not_le.mpr early)
    rw [exec_settleTimer run, ifDue_false no]
  · have due := (settleDue_iff running entry).mpr late
    obtain ⟨process, framed⟩ := (loopSettled_beside s l).settled
    have pot := (settle_frame (loopSettled s l)).pot
    have loop := getLoop_settle (loopSettled s l) l
    rw [getLoop_loopSettled] at loop
    obtain ⟨settled, timer, band⟩ := loopSettled_recomposed inBand holds
    rw [← loop] at settled timer band
    rw [exec_settleTimer run, ifDue_true due, expireSettle_due due]
    refine ⟨_, rfl, settled, timer, band, process, framed, fun p heats => ?_, fun other => ?_⟩
    · subst p
      obtain ⟨state, readyAt, idleFrom⟩ := loopSettled_heated heats
      exact ⟨pot.state.trans state, pot.readyAt.trans readyAt, pot.idleFrom.trans idleFrom⟩
    · exact potKept_trans (potKept_of_eq (loopSettled_pot other)) pot

end Sys2Proof.PreheatLoops
end

section
/-! SUPPORT. The evaluation of a loop on a new PV (R77): OVERTEMP, band, law and runaway window. -/

namespace Sys2Proof.PreheatLoops

open Sys2Proof.Machine Sys2Proof.Safety Sys2Proof.SelectiveFluxing

/-! ### The law and the window on a record -/

/-- The record of a loop that the law is applied to (R77 stage 4). -/
def lawOn (e : Option LoopEntry) (x : Loop) : Loop :=
  match x.mode, x.pv, x.setpoint, e with
  | .active, some pv, some sp, some a => underLaw a sp pv x
  | _, _, _, _ => x

theorem getLoop_applyLaw_lawOn (s : State) (l : LoopId) :
    getLoop (applyLaw s l) l = lawOn (activeLoop s l) (getLoop s l) := by
  unfold lawOn
  split
  · next pv sp e mode hpv hsp he => exact getLoop_applyLaw mode hsp hpv he
  · next no =>
    rcases applyLaw_cases s l with same | ⟨pv, sp, e, mode, hpv, hsp, he⟩
    · rw [same]
    · exact absurd he (no pv sp e mode hpv hsp)

/-- The law moves integral and demand alone. -/
theorem lawOn_fields (e : Option LoopEntry) (x : Loop) : (lawOn e x).mode = x.mode ∧ (lawOn e x).causes = x.causes ∧
    (lawOn e x).pv = x.pv ∧ (lawOn e x).window = x.window := by
  unfold lawOn; split <;> exact ⟨rfl, rfl, rfl, rfl⟩

theorem lawOn_resting {x : Loop} (h : x.mode ≠ .active) (e : Option LoopEntry) : lawOn e x = x := by
  unfold lawOn
  split
  · next mode _ _ => exact absurd mode h
  · rfl

/-- The law reads nothing of the band. -/
theorem lawOn_banded (e : Option LoopEntry) (now : Time) (c : Bool) (x : Loop) :
    lawOn e (banded now c x) = banded now c (lawOn e x) := by
  have apart (a : LoopEntry) (sp pv : Int) : underLaw a sp pv (banded now c x) = banded now c (underLaw a sp pv x) := by
    have same : (underLaw a sp pv x).inBand = x.inBand := rfl
    unfold banded
    rw [same]
    cases c
    · rfl
    · cases x.inBand <;> rfl
  unfold lawOn
  rw [banded_mode, banded_pv, banded_setpoint]
  split
  · exact apart _ _ _
  · rfl

/-- The record of a loop after the judgement of its runaway window (R82). -/
def windowOn (now : Time) (x : Loop) : Loop :=
  if x.mode = .active then
    (if 900 ≤ x.demand then
      (match x.window, x.pv with
        | none, some pv => { x with window := some ⟨now, pv⟩ }
        | _, _ => x)
    else { x with window := none })
  else x

theorem getLoop_judgeWindow (s : State) (l : LoopId) : getLoop (judgeWindow s l) l = windowOn s.now (getLoop s l) := by
  unfold judgeWindow
  rw [getLoop_updLoop]; rfl

theorem windowOn_fields (now : Time) (x : Loop) : (windowOn now x).mode = x.mode ∧
    (windowOn now x).causes = x.causes ∧ (windowOn now x).pv = x.pv ∧ (windowOn now x).integral = x.integral ∧
    (windowOn now x).demand = x.demand := by
  unfold windowOn
  split
  · split
    · split <;> exact ⟨rfl, rfl, rfl, rfl, rfl⟩
    · exact ⟨rfl, rfl, rfl, rfl, rfl⟩
  · exact ⟨rfl, rfl, rfl, rfl, rfl⟩

theorem windowOn_resting {x : Loop} (h : x.mode ≠ .active) (now : Time) : windowOn now x = x := by
  unfold windowOn; rw [if_neg h]

theorem windowOn_below {x : Loop} (h : x.mode = .active) (below : x.demand < 900) (now : Time) :
    (windowOn now x).window = none := by
  unfold windowOn; rw [if_pos h, if_neg (by omega)]

theorem windowOn_above {x : Loop} {pv : Int} (h : x.mode = .active) (above : 900 ≤ x.demand) (hpv : x.pv = some pv)
    (now : Time) : (windowOn now x).window = some (x.window.getD ⟨now, pv⟩) := by
  unfold windowOn; rw [if_pos h, if_pos above, hpv]
  cases w : x.window with
  | none => rfl
  | some y => exact w

/-! ### OVERTEMP (R81) -/

/-- A PV stands above the hard maximum in force. -/
def Hot (s : State) (l : LoopId) (v : Int) : Prop := ∃ m, hardMax s l = some m ∧ m < v

/-- A loop met by its OVERTEMP. -/
def hotFault (s : State) (l : LoopId) (v : Int) : State := loopFault (raiseSlot s (slotOvertemp l) v) l .overtemp

theorem judgeOvertemp_hot {s : State} {l : LoopId} {v : Int} (pv : (getLoop s l).pv = some v) (hot : Hot s l v) :
    judgeOvertemp s l = hotFault s l v := by
  obtain ⟨m, hm, above⟩ := hot
  unfold judgeOvertemp hotFault
  simp only [pv, hm, if_pos above]

theorem judgeOvertemp_cool {s : State} {l : LoopId} {v m : Int} (pv : (getLoop s l).pv = some v)
    (hm : hardMax s l = some m) (below : v ≤ m) : judgeOvertemp s l = lowerSlot s (slotOvertemp l) := by
  unfold judgeOvertemp
  simp only [pv, hm, if_neg (not_lt.mpr below)]

theorem judgeOvertemp_unlimited {s : State} {l : LoopId} {v : Int} (pv : (getLoop s l).pv = some v)
    (hm : hardMax s l = none) : judgeOvertemp s l = s := by
  unfold judgeOvertemp
  simp only [pv, hm]

theorem judgeOvertemp_absent {s : State} {l : LoopId} (pv : (getLoop s l).pv = none) :
    judgeOvertemp s l = lowerSlot s (slotOvertemp l) := by
  unfold judgeOvertemp
  simp only [pv]

theorem overtemp_ne_starved (l : LoopId) : slotOvertemp l ≠ slotStarved l := by
  intro h; have := congrArg Fin.val h; simp [slotOvertemp, slotStarved] at this

/-- OVERTEMP judged is a fault with its alarm, the alarm cleared, or nothing. -/
theorem judgeOvertemp_cases (s : State) (l : LoopId) :
    (∃ v, (getLoop s l).pv = some v ∧ Hot s l v ∧ judgeOvertemp s l = hotFault s l v) ∨
    ((∀ v, (getLoop s l).pv = some v → ¬ Hot s l v) ∧
      (judgeOvertemp s l = lowerSlot s (slotOvertemp l) ∨ judgeOvertemp s l = s)) := by
  cases pv : (getLoop s l).pv with
  | none => exact .inr ⟨by simp, .inl (judgeOvertemp_absent pv)⟩
  | some v =>
    cases hm : hardMax s l with
    | none =>
      refine .inr ⟨fun w _ ⟨m, hm', _⟩ => ?_, .inr (judgeOvertemp_unlimited pv hm)⟩
      rw [hm] at hm'; cases hm'
    | some m =>
      by_cases above : m < v
      · exact .inl ⟨v, rfl, ⟨m, hm, above⟩, judgeOvertemp_hot pv ⟨m, hm, above⟩⟩
      · refine .inr ⟨fun w hw ⟨m', hm', above'⟩ => ?_, .inl (judgeOvertemp_cool pv hm (not_lt.mp above))⟩
        rw [hm] at hm'; cases hm'; cases hw
        exact above above'

theorem hotFault_beside (s : State) (l : LoopId) (v : Int) :
    Beside s (hotFault s l v) [slotOvertemp l, slotStarved l] [l] :=
  ((raiseSlot_beside s (slotOvertemp l) v).andThen (loopFault_beside _ l .overtemp)).mono (by simp) (by simp)

theorem judgeOvertemp_beside (s : State) (l : LoopId) :
    Beside s (judgeOvertemp s l) [slotOvertemp l, slotStarved l] [l] := by
  rcases judgeOvertemp_cases s l with ⟨v, -, -, e⟩ | ⟨-, e | e⟩ <;> rw [e]
  · exact hotFault_beside s l v
  · exact (lowerSlot_beside s (slotOvertemp l)).mono (by simp) (List.nil_subset _)
  · exact .refl s _ _

/-- The alarm after its judgement on a PV, while limits are in force (R81, R151). -/
theorem judgeOvertemp_slot {s : State} {l : LoopId} {v m : Int} (pv : (getLoop s l).pv = some v)
    (hm : hardMax s l = some m) : (judgeOvertemp s l).ilu.slots[(slotOvertemp l).val] =
      slotAfter (decide (m < v)) v s.ilu.slots[(slotOvertemp l).val] := by
  by_cases above : m < v
  · rw [judgeOvertemp_hot pv ⟨m, hm, above⟩, hotFault, loopFault_slot _ _ _ (overtemp_ne_starved l),
      decide_eq_true above]
    exact updSlot_same s _ _
  · rw [judgeOvertemp_cool pv hm (not_lt.mp above), lowerSlot_same _ _ v, decide_eq_false above]

theorem getLoop_judgeOvertemp_hot {s : State} {l : LoopId} {v : Int} (pv : (getLoop s l).pv = some v)
    (hot : Hot s l v) : getLoop (judgeOvertemp s l) l = faulted .overtemp (getLoop s l) := by
  rw [judgeOvertemp_hot pv hot, hotFault, getLoop_loopFault]; rfl

theorem getLoop_judgeOvertemp_cool {s : State} {l : LoopId} (cool : ∀ v, (getLoop s l).pv = some v → ¬ Hot s l v) :
    getLoop (judgeOvertemp s l) l = getLoop s l := by
  rcases judgeOvertemp_cases s l with ⟨v, pv, hot, -⟩ | ⟨-, e | e⟩
  · exact absurd hot (cool v pv)
  · rw [e]; rfl
  · rw [e]

theorem judgeOvertemp_off {s : State} {l : LoopId} {v : Int} (pv : (getLoop s l).pv = some v) (hot : Hot s l v)
    (active : (getLoop s l).mode = .active) : GatesOff s (judgeOvertemp s l) l := by
  rw [judgeOvertemp_hot pv hot]
  obtain ⟨starve, starved, gates⟩ := loopFault_off (s := raiseSlot s (slotOvertemp l) v) active .overtemp
  exact ⟨starve, starved, gates⟩

theorem judgeOvertemp_potFaulted {s : State} {v : Int} (pv : (getLoop s loopP).pv = some v) (hot : Hot s loopP v)
    (active : (getLoop s loopP).mode = .active) : PotFaulted s (judgeOvertemp s loopP) := by
  rw [judgeOvertemp_hot pv hot]
  obtain ⟨⟨feeder, enabled, grams⟩, state, idle, pumps, level, contact⟩ :=
    loopFault_potFaulted (s := raiseSlot s (slotOvertemp loopP) v) active .overtemp
  exact ⟨⟨feeder, enabled, grams⟩, state, idle, pumps, level, contact⟩

/-- A judgement of OVERTEMP leaves the pot, but where it faults an ACTIVE loop P. -/
theorem judgeOvertemp_pot {s : State} {l : LoopId} (h : l = loopP → (getLoop s l).mode = .active →
    ∀ v, (getLoop s l).pv = some v → ¬ Hot s l v) : (judgeOvertemp s l).pot = s.pot := by
  rcases judgeOvertemp_cases s l with ⟨v, pv, hot, e⟩ | ⟨-, e | e⟩ <;> rw [e]
  · exact loopFault_pot (s := raiseSlot s (slotOvertemp l) v) (fun p active => h p active v pv hot) _
  · rfl

theorem judgeOvertemp_potSource (s : State) (l : LoopId) : (judgeOvertemp s l).lpu.potSource = s.lpu.potSource := by
  rcases judgeOvertemp_cases s l with ⟨v, -, -, e⟩ | ⟨-, e | e⟩ <;> rw [e]
  · exact loopFault_potSource _ l _
  · rfl

/-! ### The stages together (R77) -/

theorem applyLaw_updOnly (s : State) (l : LoopId) : ∃ f, applyLaw s l = updLoop s l f := by
  rcases applyLaw_cases s l with same | ⟨pv, sp, e, mode, hpv, hsp, he⟩
  · refine ⟨id, same.trans ?_⟩
    have slots : upd s.lpu.loops l id = s.lpu.loops := by unfold upd; simp
    unfold updLoop; rw [slots]
  · exact ⟨_, applyLaw_of mode hsp hpv he⟩

/-- Stages 3 to 5 change the record of the loop alone. -/
theorem evaluate_updOnly (s : State) (l : LoopId) : ∃ f g h,
    evaluate s l = updLoop (updLoop (updLoop (judgeOvertemp s l) l f) l g) l h := by
  obtain ⟨g, e⟩ := applyLaw_updOnly (judgeBand (judgeOvertemp s l) l) l
  refine ⟨banded (judgeOvertemp s l).now (inBandNow (judgeOvertemp s l) l), g, windowOn s.now, ?_⟩
  unfold evaluate
  dsimp only
  rw [e, judgeBand_eq]
  have now : (judgeOvertemp s l).now = s.now := (judgeOvertemp_beside s l).process.now
  rw [← now]; rfl

theorem evaluate_beside (s : State) (l : LoopId) : Beside s (evaluate s l) [slotOvertemp l, slotStarved l] [l] := by
  obtain ⟨f, g, h, e⟩ := evaluate_updOnly s l
  have record (u : State) (f : Loop → Loop) : Beside u (updLoop u l f) [slotOvertemp l, slotStarved l] [l] :=
    (updLoop_beside u l f).mono (List.nil_subset _) (List.Subset.refl _)
  rw [e]
  exact (((judgeOvertemp_beside s l).trans (record _ f)).trans (record _ g)).trans (record _ h)

theorem evaluate_ilu (s : State) (l : LoopId) : (evaluate s l).ilu = (judgeOvertemp s l).ilu := by
  obtain ⟨f, g, h, e⟩ := evaluate_updOnly s l
  rw [e]; rfl

theorem evaluate_pot (s : State) (l : LoopId) : (evaluate s l).pot = (judgeOvertemp s l).pot := by
  obtain ⟨f, g, h, e⟩ := evaluate_updOnly s l
  rw [e]; rfl

theorem evaluate_fal (s : State) (l : LoopId) : (evaluate s l).fal = (judgeOvertemp s l).fal := by
  obtain ⟨f, g, h, e⟩ := evaluate_updOnly s l
  rw [e]; rfl

theorem evaluate_potSource (s : State) (l : LoopId) : (evaluate s l).lpu.potSource = s.lpu.potSource := by
  obtain ⟨f, g, h, e⟩ := evaluate_updOnly s l
  rw [e]; exact judgeOvertemp_potSource s l

theorem evaluate_off {s : State} {l : LoopId} {v : Int} (pv : (getLoop s l).pv = some v) (hot : Hot s l v)
    (active : (getLoop s l).mode = .active) : GatesOff s (evaluate s l) l := by
  obtain ⟨starve, starved, gates⟩ := judgeOvertemp_off pv hot active
  refine ⟨by rw [evaluate_fal]; exact starve, by rw [evaluate_ilu]; exact starved, fun g e he hl => ?_⟩
  unfold gateStopped
  rw [evaluate_fal]; exact gates g e he hl

/-- The record of a loop evaluated. -/
theorem getLoop_evaluate (s : State) (l : LoopId) : ∃ c, getLoop (evaluate s l) l =
    windowOn s.now (banded s.now c (lawOn (activeLoop s l) (getLoop (judgeOvertemp s l) l))) := by
  obtain ⟨-, now, tbs, -, -, -, -⟩ := (judgeOvertemp_beside s l).process.toUntouched
  refine ⟨inBandNow (judgeOvertemp s l) l, ?_⟩
  have law : getLoop (applyLaw (judgeBand (judgeOvertemp s l) l) l) l = banded s.now (inBandNow (judgeOvertemp s l) l)
      (lawOn (activeLoop s l) (getLoop (judgeOvertemp s l) l)) := by
    rw [getLoop_applyLaw_lawOn, judgeBand_eq, getLoop_updLoop, lawOn_banded, now,
      activeLoop_of_tbs (t := updLoop (judgeOvertemp s l) l _) (s := s) tbs l]
  have time : (applyLaw (judgeBand (judgeOvertemp s l) l) l).now = s.now := by
    obtain ⟨f, e⟩ := applyLaw_updOnly (judgeBand (judgeOvertemp s l) l) l
    rw [e]; exact now
  unfold evaluate
  dsimp only
  rw [getLoop_judgeWindow, law, time]

/-- What an evaluation makes of the record of a loop with a PV: faulted when hot; else law and window. -/
theorem evaluate_loop {s : State} {l : LoopId} {v : Int} (pv : (getLoop s l).pv = some v) :
    let x := getLoop s l
    let y := getLoop (evaluate s l) l
    let z := lawOn (activeLoop s l) x
    y.pv = some v ∧
    (¬ Hot s l v → y.mode = x.mode ∧ y.causes = x.causes) ∧
    (Hot s l v → y.mode = (faulted .overtemp x).mode ∧ y.causes = (faulted .overtemp x).causes ∧
      y.demand = (faulted .overtemp x).demand ∧ y.integral = x.integral ∧ y.window = (faulted .overtemp x).window) ∧
    (¬ Hot s l v → x.mode ≠ .active → y.demand = x.demand ∧ y.integral = x.integral ∧ y.window = x.window) ∧
    (¬ Hot s l v → x.mode = .active → y.integral = z.integral ∧ y.demand = z.demand ∧
      (z.demand < 900 → y.window = none) ∧ (900 ≤ z.demand → y.window = some (x.window.getD ⟨s.now, v⟩))) := by
  intro x y z
  obtain ⟨c, shape⟩ := getLoop_evaluate s l
  have shape : y = windowOn s.now (banded s.now c (lawOn (activeLoop s l) (getLoop (judgeOvertemp s l) l))) := shape
  by_cases hot : Hot s l v
  · rw [getLoop_judgeOvertemp_hot pv hot] at shape
    obtain ⟨hpv, hint, -, -⟩ := faulted_fields .overtemp x
    have resting := faulted_mode .overtemp x
    rw [lawOn_resting resting, windowOn_resting (by rw [banded_mode]; exact resting)] at shape
    rw [shape]
    exact ⟨(banded_pv _ _ _).trans (hpv.trans pv), fun no => absurd hot no,
      fun _ => ⟨banded_mode _ _ _, banded_causes _ _ _, banded_demand _ _ _, (banded_integral _ _ _).trans hint,
        banded_window _ _ _⟩, fun no => absurd hot no, fun no => absurd hot no⟩
  · have cool : ∀ w, (getLoop s l).pv = some w → ¬ Hot s l w := by
      intro w hw; rw [pv] at hw; cases hw; exact hot
    rw [getLoop_judgeOvertemp_cool cool] at shape
    obtain ⟨mode, causes, hpv, hint, hdem⟩ := windowOn_fields s.now (banded s.now c z)
    obtain ⟨lmode, lcauses, lpv, lwindow⟩ := lawOn_fields (activeLoop s l) x
    rw [banded_mode, lmode] at mode
    rw [banded_causes, lcauses] at causes
    rw [banded_pv, lpv] at hpv
    rw [banded_integral] at hint
    rw [banded_demand] at hdem
    rw [← shape] at mode causes hpv hint hdem
    refine ⟨hpv.trans pv, fun _ => ⟨mode, causes⟩, fun h => absurd h hot, fun _ resting => ?_, fun _ active => ?_⟩
    · rw [lawOn_resting resting, windowOn_resting (by rw [banded_mode]; exact resting)] at shape
      rw [shape]
      exact ⟨banded_demand _ _ _, banded_integral _ _ _, banded_window _ _ _⟩
    · have live : (banded s.now c z).mode = .active := by rw [banded_mode]; exact lmode.trans active
      refine ⟨hint, hdem, fun below => ?_, fun above => ?_⟩
      · rw [shape]; exact windowOn_below live (by rw [banded_demand]; exact below) _
      · have value : (banded s.now c z).pv = some v := by rw [banded_pv]; exact lpv.trans pv
        have window := windowOn_above live (by rw [banded_demand]; exact above) value s.now
        rw [banded_window, show z.window = x.window from lwindow] at window
        rw [shape]; exact window

/-- The words of the statements for a loop evaluated (R77): the PV was put, in a state that has limits, table,
time and OVERTEMP of s, and later events kept loop and alarm. -/
theorem evaluated_of {s u t : State} {l : LoopId} {v : Int}
    (loop : getLoop u l = { getLoop s l with pv := some v }) (limits : u.lst.limits = s.lst.limits)
    (tbs : u.tbs = s.tbs) (now : u.now = s.now)
    (slot : u.ilu.slots[(slotOvertemp l).val] = s.ilu.slots[(slotOvertemp l).val])
    (kept : LoopKept (evaluate u l) t l)
    (kept' : t.ilu.slots[slotOvertemp l] = (evaluate u l).ilu.slots[slotOvertemp l]) : Evaluated s t l v := by
  have pv : (getLoop u l).pv = some v := by rw [loop]
  have hard : hardMax u l = hardMax s l := hardMax_of_limits limits l
  have hots : Hot u l v ↔ Hot s l v := by unfold Hot; rw [hard]
  have law : getLoop (applyLaw (updLoop s l fun x => { x with pv := some v }) l) l =
      lawOn (activeLoop u l) (getLoop u l) := by
    rw [getLoop_applyLaw_lawOn, getLoop_updLoop, loop, activeLoop_of_tbs tbs]; rfl
  obtain ⟨value, cool, hot, coolRest, coolActive⟩ := evaluate_loop pv
  obtain ⟨mode, causes, hpv, integral, demand, window⟩ := kept
  rw [← mode, ← causes] at cool
  rw [← mode, ← causes, ← demand, ← integral, ← window] at hot
  rw [← demand, ← integral, ← window] at coolRest coolActive
  rw [hots] at cool hot coolRest coolActive
  have xmode : (getLoop u l).mode = (getLoop s l).mode := by rw [loop]
  have xwindow : (getLoop u l).window = (getLoop s l).window := by rw [loop]
  unfold Evaluated
  dsimp only
  rw [law]
  refine ⟨hpv.trans value, fun m hm => ?_, fun no => ?_, fun h active => ?_, fun h fault => ?_, fun h off => ?_,
    fun resting => ?_, fun no active => ?_⟩
  · refine slotJudged_of_after (c := decide (m < v)) (by simp) ?_
    rw [Fin.getElem_fin, Fin.getElem_fin, evaluate_ilu, judgeOvertemp_slot pv (hard.trans hm), slot] at kept'
    exact kept'
  · obtain ⟨m, c⟩ := cool no
    rw [loop] at m c; exact ⟨m, c⟩
  · obtain ⟨m, c, d, i, w⟩ := hot h
    rw [faulted_active (xmode.trans active)] at m c d w
    rw [loop] at i
    exact ⟨m, c, d, i, w⟩
  · obtain ⟨m, c, -, -, -⟩ := hot h
    rw [faulted_fault (xmode.trans fault), loop] at m c
    exact ⟨m.trans fault, c⟩
  · obtain ⟨m, c, -, -, -⟩ := hot h
    rw [faulted_off (xmode.trans off), loop] at m c
    exact ⟨m.trans off, c⟩
  · by_cases h : Hot s l v
    · obtain ⟨-, -, d, i, w⟩ := hot h
      cases was : (getLoop s l).mode with
      | active => exact absurd was resting
      | fault => rw [faulted_fault (xmode.trans was), loop] at d w; rw [loop] at i; exact ⟨d, i, w⟩
      | off => rw [faulted_off (xmode.trans was), loop] at d w; rw [loop] at i; exact ⟨d, i, w⟩
    · obtain ⟨d, i, w⟩ := coolRest h (by rw [xmode]; exact resting)
      rw [loop] at d i w; exact ⟨d, i, w⟩
  · obtain ⟨i, d, below, above⟩ := coolActive no (xmode.trans active)
    rw [now, xwindow] at above
    exact ⟨i, d, below, above⟩

end Sys2Proof.PreheatLoops
end

section
/-! SUPPORT. A fresh sample of a zone thermocouple (R71, R77, R86). -/

namespace Sys2Proof.PreheatLoops

open Sys2Proof.Machine Sys2Proof.Safety Sys2Proof.SelectiveFluxing

/-! ### What a sample and the events after it keep -/

theorem overtemp_ne_held (l : LoopId) : slotOvertemp l ≠ slotInputHeld := by revert l; decide

theorem starved_ne_held (l : LoopId) : slotStarved l ≠ slotInputHeld := by revert l; decide

/-- What an event of the process keeps of a sample (R170, R173, R192). -/
theorem sampled_after {s t u : State} {i : SignalId} {v : Int} {seq : Nat} {p : Byte} {ks : List SlotId}
    {ls : List LoopId} (h : Sampled s t i v seq p) (k : Beside t u ks ls) (held : slotInputHeld ∉ ks) :
    Sampled s u i v seq p where
  lnk := k.process.lnk.trans h.lnk
  awaited := k.process.mdc.trans h.awaited
  held := by
    unfold SlotJudged
    rw [k.framed.slots slotInputHeld (by unfold Judged; decide) held]
    exact h.held
  lines := k.process.lines.trans h.lines
  now := k.process.now.trans h.now
  tbs := k.process.tbs.trans h.tbs
  mge := k.process.mge.trans h.mge
  limits := k.process.limits.trans h.limits
  storage := k.process.storage.trans h.storage

theorem sampled_trk {s t : State} {i : SignalId} {v : Int} {seq : Nat} {p : Byte} (h : Sampled s t i v seq p)
    (x : Trk) : Sampled s { t with trk := x } i v seq p :=
  ⟨h.lnk, h.awaited, h.held, h.lines, h.now, h.tbs, h.mge, h.limits, h.storage⟩

theorem sampledAt_framed (s : State) (i : SignalId) (v : Int) (seq : Nat) (p : Byte) :
    Framed s (sampledAt s i v seq p) [slotInputHeld] [] [] := by
  have frame := sampledAt_frame s i v seq p
  obtain ⟨x, m, e⟩ := sampledAt_eq s i v seq p
  refine ⟨frame.loops, ⟨frame.lockout, fun h => ⟨sampledAt_airflow s i v seq p h, frame.lockoutFrom h⟩⟩, frame.faults,
    frame.slots, fun l _ => ?_, fun g => .inl ?_⟩ <;> rw [e] <;> rfl

theorem sampledAt_lpu (s : State) (i : SignalId) (v : Int) (seq : Nat) (p : Byte) :
    (sampledAt s i v seq p).lpu = s.lpu := by
  obtain ⟨x, m, e⟩ := sampledAt_eq s i v seq p
  rw [e]; rfl

theorem sampledAt_pot (s : State) (i : SignalId) (v : Int) (seq : Nat) (p : Byte) :
    (sampledAt s i v seq p).pot = s.pot := by
  obtain ⟨x, m, e⟩ := sampledAt_eq s i v seq p
  rw [e]; rfl

theorem sampledAt_slot {s : State} {i : SignalId} {v : Int} {seq : Nat} {p : Byte} {k : SlotId}
    (h : k ≠ slotInputHeld) : (sampledAt s i v seq p).ilu.slots[k.val] = s.ilu.slots[k.val] := by
  have ilu : (sampledAt s i v seq p).ilu = (judgeInputHeld (sampleSignal s i v seq p) i).ilu := by
    unfold sampledAt; rw [leaveAwaited_mdcOnly]
  rw [ilu]
  exact judgeSlot_other h _ _

/-- The marks and the judgements after an event. -/
theorem marked_beside (o : State) : Beside o (settle (markDoubt o)) [] [] := by
  obtain ⟨process, framed, -⟩ := settled_flxChange (ns := []) (markDoubt_flxOnly o)
    fun n _ => core_faulted (markDoubt_core o) n
  exact ⟨process, framed⟩

theorem marked_pot (o : State) : PotKept o (settle (markDoubt o)) :=
  (settled_flxChange (ns := []) (markDoubt_flxOnly o) fun n _ => core_faulted (markDoubt_core o) n).2.2

/-- A change of the tracking queue leaves the frame. -/
theorem trk_framed (s : State) (x : Trk) : Framed s { s with trk := x } [] [] [] :=
  ⟨loopsKept_of_eq rfl [], ⟨rfl, fun _ => ⟨rfl, rfl⟩⟩, fun _ _ => rfl, fun _ _ _ => rfl, fun _ _ => rfl,
    fun _ => .inl rfl⟩

/-! ### The boards of a zone (R86) -/

theorem sampleInBand_iff {e s : State} (tbs : e.tbs = s.tbs) (limits : e.lst.limits = s.lst.limits) (k : ZoneId)
    (b : BoardRecord) (v : Int) : sampleInBand e k b v = true ↔ (getLoop e (zoneLoop k)).mode = .active ∧
      ∃ a, activeLoop s (zoneLoop k) = some a ∧ |v - zoneSetpoint s a (boardRecipe s b) k| ≤ a.band := by
  have entry : activeLoop e (zoneLoop k) = activeLoop s (zoneLoop k) := activeLoop_of_tbs tbs _
  have recipe : boardRecipe e b = boardRecipe s b := by unfold boardRecipe activeRecipe; rw [tbs]
  have setpoint (a : LoopEntry) (r : Option Recipe) : zoneSetpoint e a r k = zoneSetpoint s a r k := by
    unfold zoneSetpoint clamped; rw [hardMax_of_limits limits]
  unfold sampleInBand
  cases ha : activeLoop s (zoneLoop k) with
  | none => rw [entry, ha]; simp
  | some a =>
    rw [entry, ha, ownSetpoint_of (entry.trans ha), recipe, setpoint]
    simp

/-- The record of a board that takes a sample (R86). -/
theorem addSample_inside {e : State} {g : Geometry} {k : ZoneId} {v : Int} {b : Board}
    (inside : spansStretch e b.data g.zones[k].start g.zones[k].stop = true) :
    let x := addSample e g k v b
    let ok := sampleInBand e k b.data v
    x = { b with data := { b.data with preheat := x.data.preheat } } ∧
    (∀ j : ZoneId, j ≠ k → x.data.preheat[j] = b.data.preheat[j]) ∧
    x.data.preheat[k] = some (ZoneEntry.add b.data.preheat[k] v ok) := by
  unfold addSample
  rw [if_pos inside]
  exact ⟨rfl, fun j hj => upd_other _ _ _ _ hj, upd_same _ _ _⟩

theorem addSample_beyond {e : State} {g : Geometry} {k : ZoneId} {v : Int} {b : Board}
    (h : spansStretch e b.data g.zones[k].start g.zones[k].stop = false) : addSample e g k v b = b := by
  unfold addSample
  rw [if_neg (by rw [h]; simp)]

theorem spansStretch_iff {e s : State} (trk : e.trk = s.trk) (b : BoardRecord) (lo hi : Int) :
    spansStretch e b lo hi = true ↔ lo ≤ leading s b ∧ trailing s b ≤ hi := by
  unfold spansStretch trailing leading
  rw [trk]
  simp

/-- The zone records after a sample, as the statement words them. -/
theorem addSample_record {s e : State} (trk : e.trk = s.trk) (tbs : e.tbs = s.tbs)
    (limits : e.lst.limits = s.lst.limits) (g : Geometry) (k : ZoneId) (v : Int) (b : Board) :
    let x := addSample e g k v b
    let inside := (g.zones[k].start : Int) ≤ leading s b.data ∧ trailing s b.data ≤ g.zones[k].stop
    let good := (getLoop e (zoneLoop k)).mode = .active ∧ ∃ a, activeLoop s (zoneLoop k) = some a ∧
      |v - zoneSetpoint s a (boardRecipe s b.data) k| ≤ a.band
    (¬ inside → x = b) ∧
    (inside → x = { b with data := { b.data with preheat := x.data.preheat } } ∧
      (∀ j : ZoneId, j ≠ k → x.data.preheat[j] = b.data.preheat[j]) ∧
      ∃ z, x.data.preheat[k] = some z ∧
        (b.data.preheat[k] = none → z.pvMin = v ∧ z.pvMax = v ∧ (z.inBand = true ↔ good)) ∧
        ∀ y, b.data.preheat[k] = some y → z.pvMin = min y.pvMin v ∧ z.pvMax = max y.pvMax v ∧
          (z.inBand = true ↔ y.inBand = true ∧ good)) := by
  intro x inside good
  have span : spansStretch e b.data g.zones[k].start g.zones[k].stop = true ↔ inside :=
    spansStretch_iff trk b.data _ _
  have ok : sampleInBand e k b.data v = true ↔ good := sampleInBand_iff tbs limits k b.data v
  refine ⟨fun no => addSample_beyond (Bool.eq_false_of_not_eq_true fun h => no (span.mp h)), fun yes => ?_⟩
  obtain ⟨shape, others, own⟩ := addSample_inside (v := v) (span.mpr yes)
  refine ⟨shape, others, _, own, fun none => ?_, fun y some => ?_⟩
  · rw [none]; exact ⟨rfl, rfl, ok⟩
  · rw [some]
    refine ⟨rfl, rfl, ?_⟩
    unfold ZoneEntry.add
    rw [Bool.and_eq_true, ok]

/-! ### The sample (R77) -/

theorem ownerSample_zone (s : State) (k : ZoneId) (v : Int) : ownerSample s (zoneSignal k) v = zoneSample s k v := by
  unfold ownerSample
  rw [dif_pos (show (zoneSignal k).val < 6 from k.isLt)]; rfl

/-- The state a zone is evaluated in: its PV is the sample. -/
def zoneValued (o : State) (k : ZoneId) (v : Int) : State :=
  updLoop o (zoneLoop k) fun x => { x with pv := some v }

/-- A zone evaluated on its sample. -/
def zoneEvaluated (o : State) (k : ZoneId) (v : Int) : State := evaluate (zoneValued o k v) (zoneLoop k)

theorem zoneSample_eq (o : State) (k : ZoneId) (v : Int) :
    zoneSample o k v = writeZoneRecords (zoneEvaluated o k v) k v := rfl

theorem zoneEvaluated_beside (o : State) (k : ZoneId) (v : Int) : Beside o (zoneEvaluated o k v)
    [slotOvertemp (zoneLoop k), slotStarved (zoneLoop k)] [zoneLoop k] :=
  ((updLoop_beside o (zoneLoop k) _).mono (List.nil_subset _) (List.Subset.refl _)).trans (evaluate_beside _ _)

theorem zoneEvaluated_pot (o : State) (k : ZoneId) (v : Int) : (zoneEvaluated o k v).pot = o.pot := by
  unfold zoneEvaluated
  rw [evaluate_pot, judgeOvertemp_pot fun p => absurd p (zoneLoop_ne_loopP k)]; rfl

/-- The records of a zone are in the queue alone. -/
theorem writeZoneRecords_trkOnly (e : State) (k : ZoneId) (v : Int) :
    writeZoneRecords e k v = { e with trk := (writeZoneRecords e k v).trk } := by
  unfold writeZoneRecords; split <;> rfl

theorem writeZoneRecords_none {e : State} (h : activeGeometry e = none) (k : ZoneId) (v : Int) :
    writeZoneRecords e k v = e := by
  unfold writeZoneRecords; rw [h]

theorem writeZoneRecords_some {e : State} {g : Geometry} (h : activeGeometry e = some g) (k : ZoneId) (v : Int) :
    (writeZoneRecords e k v).trk = { e.trk with queue := e.trk.queue.map (addSample e g k v) } := by
  unfold writeZoneRecords; rw [h]

end Sys2Proof.PreheatLoops
end

section
/-! THEOREM. O28: a fresh sample of a zone. -/

namespace Sys2Proof.PreheatLoops

open Sys2Proof.Machine Sys2Proof.Safety Sys2Proof.SelectiveFluxing

/-- Settles O28: the evaluation and then the records, each kept through the judgements after the event. -/
theorem zoneSample : Obligations.ZoneSample := by
  unfold Obligations.ZoneSample
  intro s k v seq p l t
  obtain ⟨o, ho⟩ : ∃ o, o = sampledAt s (zoneSignal k) v seq p := ⟨_, rfl⟩
  obtain ⟨e, he⟩ : ∃ e, e = zoneEvaluated o k v := ⟨_, rfl⟩
  obtain ⟨q, hq⟩ : ∃ q, q = writeZoneRecords e k v := ⟨_, rfl⟩
  have event : t = settle (markDoubt q) := by
    rw [hq, he, ho]
    exact (freshSample_eq s _ v seq p).trans (by rw [ownerSample_zone, zoneSample_eq])
  have sampled : Sampled s o (zoneSignal k) v seq p := ho ▸ sampledAt_sampled s _ v seq p
  have first : Framed s o [slotInputHeld] [] [] := ho ▸ sampledAt_framed s _ v seq p
  have trkO : o.trk = s.trk := ho ▸ (sampledAt_frame s _ v seq p).trk
  have lpuO : o.lpu = s.lpu := ho ▸ sampledAt_lpu s _ v seq p
  have potO : o.pot = s.pot := ho ▸ sampledAt_pot s _ v seq p
  have slotO : o.ilu.slots[(slotOvertemp l).val] = s.ilu.slots[(slotOvertemp l).val] := by
    rw [ho]
    exact sampledAt_slot (overtemp_ne_held l)
  have evaluated : Beside o e [slotOvertemp l, slotStarved l] [l] := he ▸ zoneEvaluated_beside o k v
  have trkOnly : q = { e with trk := q.trk } := hq ▸ writeZoneRecords_trkOnly e k v
  have records : Framed e q [] [] [] := by rw [trkOnly]; exact trk_framed e _
  have sampledE := sampled_after sampled evaluated (by
    simp [(overtemp_ne_held l).symm, (starved_ne_held l).symm])
  have after : Beside q t [] [] := event ▸ marked_beside q
  have trkE : e.trk = s.trk := evaluated.process.trk.trans trkO
  have loopT : LoopKept e t l := by
    have kept := after.framed.loops l List.not_mem_nil
    rw [trkOnly] at kept; exact kept
  have valued : getLoop (zoneValued o k v) l = { getLoop s l with pv := some v } := by
    rw [zoneValued, getLoop_updLoop, getLoop_of_lpu lpuO]
  have slotT (j : SlotId) (hj : ¬ Judged j) : t.ilu.slots[j] = e.ilu.slots[j] := by
    rw [after.framed.slots j hj List.not_mem_nil, trkOnly]
  have judged : Evaluated s t l v :=
    evaluated_of valued sampled.limits sampled.tbs sampled.now slotO
      (show LoopKept (zoneEvaluated o k v) t l from he ▸ loopT)
      (show _ = (zoneEvaluated o k v).ilu.slots[slotOvertemp l] from he ▸ slotT _ (overtemp_notJudged l))
  have tables := evaluated.process.tbs.trans sampled.tbs
  refine ⟨?_, judged, fun active fault => ?_, fun none => ?_, fun g hg => ?_, ?_, ?_⟩
  · have sampledQ : Sampled s q (zoneSignal k) v seq p := by rw [trkOnly]; exact sampled_trk sampledE _
    exact sampled_after sampledQ after List.not_mem_nil
  · have hot : Hot (zoneValued o k v) l v := by
      by_contra no
      have cool : ¬ ∃ m, hardMax s l = some m ∧ m < v := by
        unfold Hot at no; rwa [hardMax_of_limits (t := zoneValued o k v) sampled.limits l] at no
      obtain ⟨-, -, same, -⟩ := judged
      rw [(same cool).1, active] at fault; cases fault
    have off : GatesOff (zoneValued o k v) e l :=
      he ▸ evaluate_off (by rw [valued]) hot (by rw [valued]; exact active)
    obtain ⟨starve, -, gates⟩ :=
      (off.after records List.not_mem_nil List.not_mem_nil).after after.framed List.not_mem_nil List.not_mem_nil
    refine ⟨starve, fun n x hx hl => gates n x ?_ hl⟩
    rw [activeGate_of_tbs (t := zoneValued o k v) sampled.tbs]; exact hx
  · have geometry : activeGeometry e = Option.none := by unfold activeGeometry; rw [tables]; exact none
    rw [after.process.trk, hq, writeZoneRecords_none geometry]; exact trkE
  · have geometry : activeGeometry e = some g := by unfold activeGeometry; rw [tables]; exact hg
    have trkT : t.trk = { s.trk with queue := s.trk.queue.map (addSample e g k v) } := by
      rw [after.process.trk, hq, writeZoneRecords_some geometry, trkE]
    rw [trkT]
    refine ⟨rfl, List.length_map _, fun i b x hb hx => ?_⟩
    have same : x = addSample e g k v b := by
      rw [List.getElem?_map, hb] at hx
      exact (Option.some.inj hx).symm
    rw [same, loopT.1]
    exact addSample_record trkE tables (evaluated.process.limits.trans sampled.limits) g k v b
  · have names : [slotOvertemp l, slotStarved l] ⊆ [slotInputHeld, slotOvertemp l, slotStarved l] :=
      List.subset_cons_self _ _
    exact framed_trans (framed_trans (framed_trans
      (framed_mono first (by simp) (List.nil_subset _) (List.Subset.refl _))
      (framed_mono evaluated.framed names (List.Subset.refl _) (List.Subset.refl _)))
      (framed_mono records (List.nil_subset _) (List.nil_subset _) (List.Subset.refl _)))
      (framed_mono after.framed (List.nil_subset _) (List.nil_subset _) (List.Subset.refl _))
  · have potQ : q.pot = s.pot := by
      rw [trkOnly]
      exact (he ▸ zoneEvaluated_pot o k v : e.pot = o.pot).trans potO
    exact potKept_trans (potKept_of_eq potQ) (event ▸ marked_pot q)

end Sys2Proof.PreheatLoops
end

section
/-! SUPPORT. The PV of loop P (R72, R73) and what a new one does to pumps and contact (R114, R119, R120). -/

namespace Sys2Proof.PreheatLoops

open Sys2Proof.Machine Sys2Proof.Safety Sys2Proof.SelectiveFluxing

/-! ### The table of R72 -/

theorem classOf_congr {s t : State} (lnk : t.lnk = s.lnk) (tbs : t.tbs = s.tbs) (i : SignalId) :
    classOf t i = classOf s i := by
  unfold classOf mapped mapOf signal; rw [lnk, tbs]

theorem potPv_congr {s t : State} (lnk : t.lnk = s.lnk) (tbs : t.tbs = s.tbs) : potPv t = potPv s := by
  unfold potPv disagree activePot
  rw [classOf_congr lnk tbs, classOf_congr lnk tbs]
  unfold signal; rw [lnk, tbs]

/-- The two pot thermocouples, in one order or the other. -/
def PotPair (i o : SignalId) : Prop := (i = sigPA ∧ o = sigPB) ∨ (i = sigPB ∧ o = sigPA)

/-- Two pot values agree: within the disagreement limit of the pot table (R72). -/
def Agree (s : State) (v w : Int) : Prop := ∃ e, activePot s = some e ∧ |v - w| ≤ e.disagree

theorem disagree_iff (s : State) (a b : Int) : disagree s a b = true ↔ ¬ Agree s a b := by
  unfold disagree Agree
  cases h : activePot s with
  | none => simp
  | some e => simp

theorem agree_comm {s : State} {v w : Int} : Agree s v w ↔ Agree s w v := by
  unfold Agree; simp only [abs_sub_comm]

/-- One of the two alone gives the PV while the other is not usable (R72). -/
theorem potPv_single {s : State} {i o : SignalId} {v : Int} (pair : PotPair i o) (own : classOf s i = .usable)
    (other : classOf s o ≠ .usable) (value : (signal s i).value = some v) : potPv s = .new v (some o.val) := by
  rcases pair with ⟨rfl, rfl⟩ | ⟨rfl, rfl⟩ <;> unfold potPv <;> rw [own, value]
  · cases h : classOf s sigPB with
    | usable => exact absurd h other
    | lost => rfl
    | awaited => rfl
  · cases h : classOf s sigPA with
    | usable => exact absurd h other
    | lost => rfl
    | awaited => rfl

section
variable {s : State} {i o : SignalId} {v w : Int} (pair : PotPair i o) (own : classOf s i = .usable)
  (other : classOf s o = .usable) (value : (signal s i).value = some v) (value' : (signal s o).value = some w)
include pair own other value value'

/-- Both agreeing give the floor of their mean (R72). -/
theorem potPv_mean (agree : Agree s v w) : potPv s = .new (Int.fdiv (v + w) 2) none := by
  have same : disagree s v w = false := Bool.eq_false_of_not_eq_true fun h => (disagree_iff s v w).mp h agree
  have same' : disagree s w v = false :=
    Bool.eq_false_of_not_eq_true fun h => (disagree_iff s w v).mp h (agree_comm.mp agree)
  rcases pair with ⟨rfl, rfl⟩ | ⟨rfl, rfl⟩ <;> unfold potPv <;> rw [own, other, value, value']
  · simp [same, floorDiv]
  · simp [same', floorDiv, add_comm]

/-- Disagreeing, the higher is the PV, and the lower not used (R72, R73). -/
theorem potPv_higher (no : ¬ Agree s v w) : (w < v → potPv s = .new v (some o.val)) ∧
    (v < w → potPv s = .new w (some i.val)) ∧
    (v = w → potPv s = .new v (some o.val) ∨ potPv s = .new v (some i.val)) := by
  have apart : disagree s v w = true := (disagree_iff s v w).mpr no
  have apart' : disagree s w v = true := (disagree_iff s w v).mpr fun h => no (agree_comm.mp h)
  rcases pair with ⟨rfl, rfl⟩ | ⟨rfl, rfl⟩ <;> unfold potPv <;> rw [own, other, value, value']
  · refine ⟨fun h => ?_, fun h => ?_, fun h => ?_⟩
    · simp [apart, max_eq_left h.le, h, not_lt.mpr h.le, sigPB]
    · simp [apart, max_eq_right h.le, h, sigPA]
    · subst h
      cases tied : Config.tiedLowerIsB v <;> simp [apart, tied, sigPA, sigPB]
  · refine ⟨fun h => ?_, fun h => ?_, fun h => ?_⟩
    · simp [apart', max_eq_right h.le, h, sigPA]
    · simp [apart', max_eq_left h.le, h, not_lt.mpr h.le, sigPB]
    · subst h
      cases tied : Config.tiedLowerIsB v <;> simp [apart, tied, sigPA, sigPB]
end

/-- A usable pot thermocouple gives a new PV. -/
theorem potPv_usable {s : State} {i o : SignalId} (pair : PotPair i o) (own : classOf s i = .usable) :
    ∃ pv unused, potPv s = .new pv unused := by
  rcases pair with ⟨rfl, rfl⟩ | ⟨rfl, rfl⟩ <;> unfold potPv <;> rw [own]
  · cases classOf s sigPB
    · dsimp only; split <;> exact ⟨_, _, rfl⟩
    · exact ⟨_, _, rfl⟩
    · exact ⟨_, _, rfl⟩
  · cases classOf s sigPA
    · dsimp only; split <;> exact ⟨_, _, rfl⟩
    · exact ⟨_, _, rfl⟩
    · exact ⟨_, _, rfl⟩

/-! ### The PV formed (R72, R73) -/

/-- What POT_TC_DEGRADED takes from the thermocouple not used. -/
def degradedBy : Option Int → AlarmSlot → AlarmSlot
  | some d => AlarmSlot.raiseAnew d
  | none => AlarmSlot.lower

/-- The state with a new PV of loop P and its alarm. -/
def potFormed (s : State) (pv : Int) (unused : Option Int) : State :=
  updSlot (putPotPv s (some pv) (sourceOf unused)) slotPotDegraded (degradedBy unused)

theorem formPotPv_new {s : State} {pv : Int} {unused : Option Int} (h : potPv s = .new pv unused) :
    formPotPv s = potFormed s pv unused := by
  unfold formPotPv
  rw [h]
  cases unused <;> rfl

theorem potFormed_loop (s : State) (pv : Int) (unused : Option Int) :
    getLoop (potFormed s pv unused) loopP = { getLoop s loopP with pv := some pv } :=
  getLoop_updLoop s loopP fun x => { x with pv := some pv }

theorem potFormed_slot (s : State) (pv : Int) (unused : Option Int) :
    (potFormed s pv unused).ilu.slots[slotPotDegraded.val] = degradedBy unused s.ilu.slots[slotPotDegraded.val] :=
  updSlot_same (putPotPv s (some pv) (sourceOf unused)) slotPotDegraded _

theorem potFormed_slot_other (s : State) (pv : Int) (unused : Option Int) {k : SlotId} (h : k ≠ slotPotDegraded) :
    (potFormed s pv unused).ilu.slots[k.val] = s.ilu.slots[k.val] :=
  updSlot_other (putPotPv s (some pv) (sourceOf unused)) slotPotDegraded k _ h

theorem potFormed_pot (s : State) (pv : Int) (unused : Option Int) : (potFormed s pv unused).pot = s.pot := rfl

theorem potFormed_source (s : State) (pv : Int) (unused : Option Int) :
    (potFormed s pv unused).lpu.potSource = sourceOf unused := rfl

theorem putPotPv_beside (s : State) (pv : Option Int) (x : PvSource) : Beside s (putPotPv s pv x) [] [loopP] := by
  obtain ⟨process, framed⟩ := updLoop_beside s loopP fun x => { x with pv := pv }
  exact ⟨⟨⟨rfl, rfl, rfl, rfl, rfl, rfl, rfl, rfl, rfl, rfl, rfl⟩, rfl, rfl⟩,
    ⟨framed.loops, framed.hoods, framed.nozzles, framed.slots, framed.starve, framed.gates⟩⟩

theorem potFormed_beside (s : State) (pv : Int) (unused : Option Int) :
    Beside s (potFormed s pv unused) [slotPotDegraded] [loopP] :=
  (putPotPv_beside s _ _).andThen (updSlot_beside _ slotPotDegraded _)

theorem potPv_potFormed (s : State) (pv : Int) (unused : Option Int) : potPv (potFormed s pv unused) = potPv s :=
  potPv_congr rfl rfl

/-! ### Pumps started (R114) -/

theorem judgePumpsStarted_cases (s : State) : judgePumpsStarted s = s ∨
    judgePumpsStarted s = { s with pot := { s.pot with pumpsStarted := true } } := by
  unfold judgePumpsStarted
  split
  · split
    · exact .inr rfl
    · exact .inl rfl
  · exact .inl rfl

/-- In RECOVERING a PV at the clamped run setpoint less the margin, or above, starts the pumps. -/
theorem judgePumpsStarted_iff {s : State} {pv : Int} {e : PotEntry} (hpv : (getLoop s loopP).pv = some pv)
    (he : activePot s = some e) : (judgePumpsStarted s).pot.pumpsStarted = true ↔ s.pot.pumpsStarted = true ∨
      (s.pot.state = .recovering ∧ clamped s loopP e.runSp - e.startMargin ≤ pv) := by
  have run : runSetpoint s = some (clamped s loopP e.runSp) := by
    unfold runSetpoint; rw [he, Option.map_some, clampSetpoint_eq]
  unfold judgePumpsStarted
  rw [hpv, he, run]
  cases state : s.pot.state
  case recovering =>
    dsimp only
    split
    · next reached => simp [reached]
    · next below => simp [below]
  all_goals simp

/-! ### The running contact (R119, R120) -/

/-- The PV of loop P is outside the contact pot band of the recipe of the contact's board (R120). -/
def contactOutside (s : State) (c : Contact) : Bool :=
  match (findBoard s c.board).bind fun b => boardRecipe s b.data, (getLoop s loopP).pv with
  | some r, some pv => decide (pv < r.bandMin) || decide (r.bandMax < pv)
  | _, _ => false

/-- WAVE_NOT_READY latched for a contact. -/
def contactReported (s : State) (c : Contact) : State :=
  latchSlot { s with pot := { s.pot with contact := some { c with reported := true } } } slotWaveNotReady c.tag

theorem judgeContact_none {s : State} (h : s.pot.contact = none) (start : Bool) : judgeContact s start = s := by
  unfold judgeContact; rw [h]

theorem judgeContact_during {s : State} {c : Contact} (h : s.pot.contact = some c) : judgeContact s false =
    if contactOutside s c && !c.reported then contactReported s c else s := by
  unfold judgeContact
  rw [h]
  simp only [Bool.false_and, Bool.false_or]
  rfl

theorem contactOutside_iff {s : State} {c : Contact} {b : Board} {pv : Int} (found : findBoard s c.board = some b)
    (hpv : (getLoop s loopP).pv = some pv) : contactOutside s c = true ↔
      ∃ r, boardRecipe s b.data = some r ∧ (pv < r.bandMin ∨ r.bandMax < pv) := by
  unfold contactOutside
  rw [found, hpv, Option.bind_some]
  cases boardRecipe s b.data <;> simp

/-- A new PV of loop P moves the pumps' start, the contact, its board's record and WAVE_NOT_READY alone. -/
structure PotPvOnly (s t : State) : Prop where
  only : t = { s with pot := t.pot, trk := { s.trk with queue := t.trk.queue }, ilu := t.ilu }
  queue : t.trk.queue.length = s.trk.queue.length
  slots : ∀ k : SlotId, k ≠ slotWaveNotReady → t.ilu.slots[k.val] = s.ilu.slots[k.val]
  pot : t.pot = { s.pot with pumpsStarted := t.pot.pumpsStarted, contact := t.pot.contact }

theorem PotPvOnly.trans {s t u : State} (h : PotPvOnly s t) (k : PotPvOnly t u) : PotPvOnly s u where
  only := by
    have e := k.only
    rw [h.only] at e
    exact e
  queue := k.queue.trans h.queue
  slots := fun i hi => (k.slots i hi).trans (h.slots i hi)
  pot := by
    have e := k.pot
    rw [h.pot] at e
    exact e

theorem judgePumpsStarted_only (s : State) : PotPvOnly s (judgePumpsStarted s) := by
  rcases judgePumpsStarted_cases s with e | e <;> rw [e] <;> exact ⟨rfl, rfl, fun _ _ => rfl, rfl⟩

theorem updWave_only (s : State) (p : Pos) (f : WavePart → WavePart) : PotPvOnly s (updWave s p f) :=
  ⟨rfl, List.length_map _, fun _ _ => rfl, rfl⟩

theorem judgeContact_only (s : State) : PotPvOnly s (judgeContact s false) := by
  cases h : s.pot.contact with
  | none => rw [judgeContact_none h]; exact ⟨rfl, rfl, fun _ _ => rfl, rfl⟩
  | some c =>
    rw [judgeContact_during h]
    split
    · exact ⟨rfl, rfl, fun k hk => updSlot_other _ slotWaveNotReady k _ hk, rfl⟩
    · exact ⟨rfl, rfl, fun _ _ => rfl, rfl⟩

theorem judgePumpsStarted_contact (s : State) : (judgePumpsStarted s).pot.contact = s.pot.contact := by
  rcases judgePumpsStarted_cases s with e | e <;> rw [e]

theorem potNewPv_idle {s : State} (h : s.pot.contact = none) (pv : Int) : potNewPv s pv = judgePumpsStarted s := by
  unfold potNewPv
  dsimp only
  rw [judgePumpsStarted_contact, h]

/-- The state in which a running contact is judged on a new PV. -/
def contactSeen (s : State) (c : Contact) (pv : Int) : State :=
  updWave (judgePumpsStarted s) c.board (WavePart.see pv)

theorem potNewPv_running {s : State} {c : Contact} (h : s.pot.contact = some c) (pv : Int) :
    potNewPv s pv = judgeContact (contactSeen s c pv) false := by
  unfold potNewPv
  dsimp only
  rw [judgePumpsStarted_contact, h]
  rfl

theorem contactSeen_only (s : State) (c : Contact) (pv : Int) : PotPvOnly s (contactSeen s c pv) :=
  (judgePumpsStarted_only s).trans (updWave_only _ _ _)

theorem contactSeen_contact {s : State} {c : Contact} (h : s.pot.contact = some c) (pv : Int) :
    (contactSeen s c pv).pot.contact = some c := (judgePumpsStarted_contact s).trans h

theorem potNewPv_only (s : State) (pv : Int) : PotPvOnly s (potNewPv s pv) := by
  cases h : s.pot.contact with
  | none => rw [potNewPv_idle h]; exact judgePumpsStarted_only s
  | some c => rw [potNewPv_running h]; exact (contactSeen_only s c pv).trans (judgeContact_only _)

theorem potNewPv_pumps (s : State) (pv : Int) :
    (potNewPv s pv).pot.pumpsStarted = (judgePumpsStarted s).pot.pumpsStarted := by
  cases h : s.pot.contact with
  | none => rw [potNewPv_idle h]
  | some c =>
    rw [potNewPv_running h, judgeContact_during (contactSeen_contact h pv)]
    split <;> rfl

/-- A wave part that takes a PV (R119). -/
theorem see_eq (pv : Int) (w : WavePart) : WavePart.see pv w = { w with
    pvMin := some (min (w.pvMin.getD pv) pv)
    pvMax := some (max (w.pvMax.getD pv) pv) } := by
  unfold WavePart.see
  cases w.pvMin <;> cases w.pvMax <;> simp

/-- A board whose wave part takes a PV. -/
def waveSeen (pv : Int) (b : Board) : Board :=
  { b with data := { b.data with wave := b.data.wave.map (WavePart.see pv) } }

theorem updWave_board {s : State} {p : Pos} {b : Board} (f : WavePart → WavePart) (found : findBoard s p = some b) :
    findBoard (updWave s p f) p = some { b with data := { b.data with wave := b.data.wave.map f } } :=
  findBoard_updBoard (fun _ => rfl) found

theorem findBoard_of_trk {s t : State} (h : t.trk = s.trk) (p : Pos) : findBoard t p = findBoard s p := by
  unfold findBoard; rw [h]

/-- A running contact on a new PV: its board's wave part takes it, and outside the band it is reported once. -/
theorem potNewPv_contact {s : State} {c : Contact} {b : Board} {pv : Int} (h : s.pot.contact = some c)
    (found : findBoard s c.board = some b) (hpv : (getLoop s loopP).pv = some pv) :
    let t := potNewPv s pv
    let outside := ∃ r, boardRecipe s b.data = some r ∧ (pv < r.bandMin ∨ r.bandMax < pv)
    findBoard t c.board = some (waveSeen pv b) ∧
    (outside → t.pot.contact = some { c with reported := true } ∧
      (c.reported = false → t.ilu.slots[slotWaveNotReady].latched = true ∧
        t.ilu.slots[slotWaveNotReady].detail = c.tag)) ∧
    (¬ outside → t.pot.contact = some c) ∧
    (¬ outside ∨ c.reported = true → t.ilu.slots[slotWaveNotReady] = s.ilu.slots[slotWaveNotReady]) := by
  intro t outside
  have trk : (judgePumpsStarted s).trk = s.trk := by
    rcases judgePumpsStarted_cases s with e | e <;> rw [e]
  have seen : findBoard (contactSeen s c pv) c.board = some (waveSeen pv b) :=
    updWave_board _ ((findBoard_of_trk trk _).trans found)
  have only := (contactSeen_only s c pv).only
  have tbs : (contactSeen s c pv).tbs = s.tbs := by rw [only]
  have lpu : (contactSeen s c pv).lpu = s.lpu := by rw [only]
  have ilu : (contactSeen s c pv).ilu = s.ilu := by
    unfold contactSeen
    rcases judgePumpsStarted_cases s with e | e <;> rw [e] <;> rfl
  have recipe : boardRecipe (contactSeen s c pv) (waveSeen pv b).data = boardRecipe s b.data := by
    unfold boardRecipe activeRecipe; rw [tbs]; rfl
  have iff : contactOutside (contactSeen s c pv) c = true ↔ outside := by
    rw [contactOutside_iff seen (by rw [getLoop_of_lpu lpu]; exact hpv), recipe]
  have event : t = if contactOutside (contactSeen s c pv) c && !c.reported then contactReported (contactSeen s c pv) c
      else contactSeen s c pv := (potNewPv_running h pv).trans (judgeContact_during (contactSeen_contact h pv))
  by_cases out : outside
  · cases reported : c.reported with
    | true =>
      have same : t = contactSeen s c pv := by rw [event, reported]; simp
      rw [same, ilu]
      refine ⟨seen, fun _ => ⟨?_, fun no => by cases no⟩, fun no => absurd out no, fun _ => rfl⟩
      rw [contactSeen_contact h, ← reported]
    | false =>
      have latched : t = contactReported (contactSeen s c pv) c := by rw [event, iff.mpr out, reported]; rfl
      have slot : t.ilu.slots[slotWaveNotReady] =
          ⟨(contactSeen s c pv).ilu.slots[slotWaveNotReady].live, true, c.tag⟩ := by
        rw [latched, Fin.getElem_fin]; exact latchSlot_same _ slotWaveNotReady _
      refine ⟨by rw [latched]; exact seen, fun _ => ⟨by rw [latched]; rfl, fun _ => ?_⟩, fun no => absurd out no,
        fun no => ?_⟩
      · rw [slot]; exact ⟨rfl, rfl⟩
      · rcases no with no | no
        · exact absurd out no
        · cases no
  · have same : t = contactSeen s c pv := by
      rw [event, Bool.eq_false_of_not_eq_true fun h => out (iff.mp h)]; rfl
    rw [same, ilu]
    exact ⟨seen, fun yes => absurd yes out, fun _ => contactSeen_contact h pv, fun _ => rfl⟩

end Sys2Proof.PreheatLoops
end

section
/-! SUPPORT. A fresh sample of a pot thermocouple (R72, R77). -/

namespace Sys2Proof.PreheatLoops

open Sys2Proof.Machine Sys2Proof.Safety Sys2Proof.SelectiveFluxing

/-! ### What later events keep -/

theorem marked_core (o : State) : (settle (markDoubt o)).core = o.core := (settle_core _).trans (markDoubt_core o)

theorem pumps_of_core {s t : State} (h : t.core = s.core) : t.pot.pumpsStarted = s.pot.pumpsStarted :=
  show t.core.pot.pumpsStarted = s.core.pot.pumpsStarted by rw [h]

theorem marked_pumps (o : State) : (settle (markDoubt o)).pot.pumpsStarted = o.pot.pumpsStarted :=
  pumps_of_core (marked_core o)

theorem marked_potSource (o : State) : (settle (markDoubt o)).lpu.potSource = o.lpu.potSource :=
  core_potSource (marked_core o)

theorem PotPvOnly.framed {s t : State} (h : PotPvOnly s t) : Framed s t [slotWaveNotReady] [] [] where
  loops := loopsKept_of_eq (by rw [h.only]) []
  hoods := by rw [h.only]; exact ⟨rfl, fun _ => ⟨rfl, rfl⟩⟩
  nozzles := fun n _ => by rw [h.only]; rfl
  slots := fun k _ hk => h.slots k (List.ne_of_not_mem_cons hk)
  starve := fun l _ => by rw [h.only]
  gates := fun g => .inl (by rw [h.only])

/-- A new PV moves no other part of the pot. -/
theorem PotPvOnly.rest {s t : State} (h : PotPvOnly s t) : t.pot.state = s.pot.state ∧
    t.pot.readyAt = s.pot.readyAt ∧ t.pot.idleFrom = s.pot.idleFrom ∧ t.pot.feeder = s.pot.feeder ∧
    t.pot.level = s.pot.level ∧ t.pot.feederEnabled = s.pot.feederEnabled := by
  rw [h.pot]
  exact ⟨rfl, rfl, rfl, rfl, rfl, rfl⟩

theorem sampled_potPv {s t u : State} {i : SignalId} {v : Int} {seq : Nat} {p : Byte} (h : Sampled s t i v seq p)
    (k : PotPvOnly t u) : Sampled s u i v seq p := by
  have slot : u.ilu.slots[slotInputHeld] = t.ilu.slots[slotInputHeld] := k.slots slotInputHeld (by decide)
  have held := h.held
  unfold SlotJudged at held
  rw [← slot] at held
  obtain ⟨lnk, awaited, -, lines, now, tbs, mge, limits, storage⟩ := h
  constructor
  case held => exact held
  all_goals rw [k.only]; assumption

/-- An ACTIVE loop that an evaluation leaves in FAULT was hot. -/
theorem Evaluated.hot {s t : State} {l : LoopId} {v : Int} (h : Evaluated s t l v)
    (active : (getLoop s l).mode = .active) (fault : (getLoop t l).mode = .fault) : Hot s l v := by
  by_contra cool
  obtain ⟨-, -, same, -⟩ := h
  rw [(same cool).1, active] at fault
  cases fault

/-- One whose evaluation leaves its mode was not, if it was ACTIVE. -/
theorem Evaluated.cool {s t : State} {l : LoopId} {v : Int} (h : Evaluated s t l v)
    (active : (getLoop s l).mode = .active) (same : (getLoop t l).mode = (getLoop s l).mode) : ¬ Hot s l v := by
  intro hot
  obtain ⟨-, -, -, faults, -⟩ := h
  rw [(faults hot active).1, active] at same
  cases same

theorem judgePumpsStarted_other {s : State} (h : s.pot.state ≠ .recovering) : judgePumpsStarted s = s := by
  unfold judgePumpsStarted
  split
  · next state _ _ _ => exact absurd state h
  · rfl

/-! ### The sample, its PV formed, evaluated and handed on -/

/-- What the statement says of a new PV of loop P that a sample brings. -/
def PotPvTaken (s t : State) (pv : Int) (src : PvSource) : Prop :=
  Evaluated s t loopP pv ∧ t.lpu.potSource = src ∧
  ((getLoop s loopP).mode = .active → (getLoop t loopP).mode = .fault → t.pot.state = .fault ∧
    t.pot.feeder = .off ∧ t.pot.idleFrom = none ∧ t.pot.pumpsStarted = false) ∧
  ((getLoop t loopP).mode = (getLoop s loopP).mode ∨ (getLoop s loopP).mode ≠ .active →
    t.pot.state = s.pot.state ∧ t.pot.readyAt = s.pot.readyAt ∧ t.pot.idleFrom = s.pot.idleFrom ∧
    t.pot.feeder = s.pot.feeder ∧ ∀ e, activePot s = some e →
    (t.pot.pumpsStarted = true ↔ s.pot.pumpsStarted = true ∨ (s.pot.state = .recovering ∧
      clamped s loopP e.runSp - e.startMargin ≤ pv))) ∧
  (s.pot.contact = none → t.pot.contact = none ∧ t.trk = s.trk) ∧
  (∀ c b, s.pot.contact = some c → findBoard s c.board = some b →
    let outside := ∃ r, boardRecipe s b.data = some r ∧ (pv < r.bandMin ∨ r.bandMax < pv)
    findBoard t c.board = some { b with data := { b.data with wave := b.data.wave.map fun w =>
      { w with
        pvMin := some (min (w.pvMin.getD pv) pv)
        pvMax := some (max (w.pvMax.getD pv) pv) } } } ∧
    (outside → t.pot.contact = some { c with reported := true } ∧
      (c.reported = false → t.ilu.slots[slotWaveNotReady].latched = true ∧
        t.ilu.slots[slotWaveNotReady].detail = c.tag)) ∧
    (¬ outside → t.pot.contact = some c) ∧
    (¬ outside ∨ c.reported = true →
      t.ilu.slots[slotWaveNotReady] = s.ilu.slots[slotWaveNotReady]))

/-- The state a PV of loop P is evaluated in, and the state after. -/
def potEvaluated (o : State) (pv : Int) (unused : Option Int) : State := evaluate (potFormed o pv unused) loopP

theorem potSample_new {o : State} {pv : Int} {unused : Option Int} (h : potPv o = .new pv unused) :
    potSample o = potNewPv (potEvaluated o pv unused) pv := by
  unfold potSample
  dsimp only
  rw [formPotPv_new h, potPv_potFormed, h]
  rfl

theorem ownerSample_pot {s : State} {i o : SignalId} (pair : PotPair i o) (v : Int) :
    ownerSample s i v = potSample s := by
  rcases pair with ⟨rfl, rfl⟩ | ⟨rfl, rfl⟩ <;> rfl

theorem potEvaluated_beside (o : State) (pv : Int) (unused : Option Int) : Beside o (potEvaluated o pv unused)
    [slotPotDegraded, slotOvertemp loopP, slotStarved loopP] [loopP] :=
  ((potFormed_beside o pv unused).andThen (evaluate_beside _ loopP)).mono (by simp) (by simp)

theorem potEvaluated_pv (o : State) (pv : Int) (unused : Option Int) :
    (getLoop (potEvaluated o pv unused) loopP).pv = some pv := by
  obtain ⟨value, -⟩ := evaluate_loop (s := potFormed o pv unused) (l := loopP) (v := pv) (by rw [potFormed_loop])
  exact value

/-- The pot after the evaluation: in FAULT by a hot ACTIVE loop P, else as it was. -/
theorem potEvaluated_faulted {o : State} {pv : Int} {unused : Option Int} (hot : Hot o loopP pv)
    (active : (getLoop o loopP).mode = .active) : PotFaulted o (potEvaluated o pv unused) := by
  obtain ⟨⟨feeder, enabled, grams⟩, state, idle, pumps, level, contact⟩ :=
    judgeOvertemp_potFaulted (s := potFormed o pv unused) (v := pv) (by rw [potFormed_loop]) hot
      (by rw [potFormed_loop]; exact active)
  unfold potEvaluated
  constructor
  case toUnfed => exact ⟨by rw [evaluate_pot]; exact feeder, by rw [evaluate_pot]; exact enabled,
    fun e t0 he fed => by rw [evaluate_pot]; exact grams e t0 he fed⟩
  all_goals rw [evaluate_pot]; assumption

theorem potEvaluated_pot {o : State} {pv : Int} {unused : Option Int}
    (cool : (getLoop o loopP).mode = .active → ¬ Hot o loopP pv) : (potEvaluated o pv unused).pot = o.pot := by
  unfold potEvaluated
  rw [evaluate_pot, judgeOvertemp_pot]
  · rfl
  · intro _ active v hv
    rw [potFormed_loop] at active hv
    cases hv
    exact cool active

/-- Contact, level and the feeder's enabling stand through the evaluation. -/
theorem potEvaluated_beside_pot (o : State) (pv : Int) (unused : Option Int) :
    (potEvaluated o pv unused).pot.contact = o.pot.contact ∧ (potEvaluated o pv unused).pot.level = o.pot.level ∧
    (potEvaluated o pv unused).pot.feederEnabled = o.pot.feederEnabled := by
  by_cases h : (getLoop o loopP).mode = .active ∧ Hot o loopP pv
  · have faulted := potEvaluated_faulted (unused := unused) h.2 h.1
    exact ⟨faulted.contact, faulted.level, faulted.enabled⟩
  · rw [potEvaluated_pot fun active hot => h ⟨active, hot⟩]
    exact ⟨rfl, rfl, rfl⟩

section
variable {s o t : State} {i : SignalId} {v pv : Int} {seq : Nat} {p : Byte} {unused : Option Int}
  (ho : o = sampledAt s i v seq p) (event : t = settle (markDoubt (potNewPv (potEvaluated o pv unused) pv)))
include ho event

/-- The sample itself stands. -/
theorem potEvent_sampled : Sampled s t i v seq p := by
  have sampled : Sampled s o i v seq p := ho ▸ sampledAt_sampled s i v seq p
  rw [event]
  exact sampled_after (sampled_potPv (sampled_after sampled (potEvaluated_beside o pv unused) (by decide))
    (potNewPv_only _ pv)) (marked_beside _) List.not_mem_nil

theorem potEvent_framed : Framed s t
    [slotInputHeld, slotPotDegraded, slotOvertemp loopP, slotStarved loopP, slotWaveNotReady] [loopP] [] := by
  have first : Framed s o [slotInputHeld] [] [] := ho ▸ sampledAt_framed s i v seq p
  rw [event]
  exact framed_trans (framed_trans (framed_trans
    (framed_mono first (by simp) (List.nil_subset _) (List.Subset.refl _))
    (framed_mono (potEvaluated_beside o pv unused).framed (by simp) (List.Subset.refl _) (List.Subset.refl _)))
    (framed_mono (potNewPv_only _ pv).framed (by simp) (List.nil_subset _) (List.Subset.refl _)))
    (framed_mono (marked_beside _).framed (List.nil_subset _) (List.nil_subset _) (List.Subset.refl _))

theorem potEvent_trk : t.trk = { s.trk with queue := t.trk.queue } ∧ t.trk.queue.length = s.trk.queue.length := by
  have trkO : o.trk = s.trk := ho ▸ (sampledAt_frame s i v seq p).trk
  have trkE : (potEvaluated o pv unused).trk = s.trk := (potEvaluated_beside o pv unused).process.trk.trans trkO
  have only := potNewPv_only (potEvaluated o pv unused) pv
  have trkT : t.trk = (potNewPv (potEvaluated o pv unused) pv).trk := event ▸ (marked_beside _).process.trk
  rw [trkT]
  refine ⟨?_, only.queue.trans (by rw [trkE])⟩
  have trkN := congrArg State.trk only.only
  rw [trkE] at trkN
  exact trkN

theorem potEvent_levels : t.pot.level = s.pot.level ∧ t.pot.feederEnabled = s.pot.feederEnabled := by
  have potO : o.pot = s.pot := ho ▸ sampledAt_pot s i v seq p
  obtain ⟨-, level, enabled⟩ := potEvaluated_beside_pot o pv unused
  obtain ⟨-, -, -, -, levelN, enabledN⟩ := (potNewPv_only (potEvaluated o pv unused) pv).rest
  have kept := marked_pot (potNewPv (potEvaluated o pv unused) pv)
  rw [← event] at kept
  rw [potO] at level enabled
  exact ⟨kept.level.trans (levelN.trans level), kept.feederEnabled.trans (enabledN.trans enabled)⟩

/-- POT_TC_DEGRADED follows the thermocouple not used (R73). -/
theorem potEvent_degraded : t.ilu.slots[slotPotDegraded.val] =
    degradedBy unused s.ilu.slots[slotPotDegraded.val] := by
  have slotO : o.ilu.slots[slotPotDegraded.val] = s.ilu.slots[slotPotDegraded.val] :=
    ho ▸ sampledAt_slot (by decide)
  have judged : ¬ Judged slotPotDegraded := by unfold Judged; decide
  have evaluated := (evaluate_beside (potFormed o pv unused) loopP).framed.slots slotPotDegraded judged (by decide)
  have settled := (marked_beside (potNewPv (potEvaluated o pv unused) pv)).framed.slots slotPotDegraded judged
    List.not_mem_nil
  rw [← event] at settled
  rw [← slotO, ← potFormed_slot]
  exact settled.trans (((potNewPv_only _ pv).slots slotPotDegraded (by decide)).trans evaluated)

theorem potEvent_evaluated : Evaluated s t loopP pv := by
  have sampled : Sampled s o i v seq p := ho ▸ sampledAt_sampled s i v seq p
  have lpuO : o.lpu = s.lpu := ho ▸ sampledAt_lpu s i v seq p
  have slotO : o.ilu.slots[(slotOvertemp loopP).val] = s.ilu.slots[(slotOvertemp loopP).val] :=
    ho ▸ sampledAt_slot (by decide)
  have valued : getLoop (potFormed o pv unused) loopP = { getLoop s loopP with pv := some pv } := by
    rw [potFormed_loop, getLoop_of_lpu lpuO]
  have after := framed_trans
    (framed_mono (potNewPv_only (potEvaluated o pv unused) pv).framed (List.Subset.refl _) (List.Subset.refl _)
      (List.Subset.refl _))
    (framed_mono (marked_beside _).framed (List.nil_subset [slotWaveNotReady]) (List.Subset.refl _)
      (List.Subset.refl _))
  rw [← event] at after
  exact evaluated_of valued sampled.limits sampled.tbs sampled.now
    ((potFormed_slot_other o pv unused (by decide)).trans slotO) (after.loops loopP List.not_mem_nil)
    (after.slots _ (overtemp_notJudged loopP) (by decide))

omit ho in
theorem potEvent_source : t.lpu.potSource = sourceOf unused := by
  have only := congrArg (fun u : State => u.lpu.potSource) (potNewPv_only (potEvaluated o pv unused) pv).only
  rw [event, marked_potSource]
  exact only.trans ((evaluate_potSource _ loopP).trans (potFormed_source o pv unused))

theorem potEvent_faulted (hot : Hot s loopP pv) (active : (getLoop s loopP).mode = .active) :
    t.pot.state = .fault ∧ t.pot.feeder = .off ∧ t.pot.idleFrom = none ∧ t.pot.pumpsStarted = false := by
  have sampled : Sampled s o i v seq p := ho ▸ sampledAt_sampled s i v seq p
  have lpuO : o.lpu = s.lpu := ho ▸ sampledAt_lpu s i v seq p
  have hotO : Hot o loopP pv := by unfold Hot; rw [hardMax_of_limits sampled.limits]; exact hot
  have faulted : PotFaulted o (potEvaluated o pv unused) :=
    potEvaluated_faulted hotO (by rw [getLoop_of_lpu lpuO]; exact active)
  obtain ⟨state, -, idle, feeder, -⟩ := (potNewPv_only (potEvaluated o pv unused) pv).rest
  have kept := marked_pot (potNewPv (potEvaluated o pv unused) pv)
  have pumps := marked_pumps (potNewPv (potEvaluated o pv unused) pv)
  rw [← event] at kept pumps
  have still : judgePumpsStarted (potEvaluated o pv unused) = potEvaluated o pv unused :=
    judgePumpsStarted_other (by rw [faulted.state]; simp)
  refine ⟨kept.state.trans (state.trans faulted.state), kept.feeder.trans (feeder.trans faulted.feeder),
    kept.idleFrom.trans (idle.trans faulted.idle), pumps.trans ?_⟩
  rw [potNewPv_pumps, still, faulted.pumps]

theorem potEvent_cool (cool : (getLoop s loopP).mode = .active → ¬ Hot s loopP pv) :
    t.pot.state = s.pot.state ∧ t.pot.readyAt = s.pot.readyAt ∧ t.pot.idleFrom = s.pot.idleFrom ∧
    t.pot.feeder = s.pot.feeder ∧ ∀ e, activePot s = some e →
    (t.pot.pumpsStarted = true ↔ s.pot.pumpsStarted = true ∨ (s.pot.state = .recovering ∧
      clamped s loopP e.runSp - e.startMargin ≤ pv)) := by
  have sampled : Sampled s o i v seq p := ho ▸ sampledAt_sampled s i v seq p
  have lpuO : o.lpu = s.lpu := ho ▸ sampledAt_lpu s i v seq p
  have potO : o.pot = s.pot := ho ▸ sampledAt_pot s i v seq p
  have potE : (potEvaluated o pv unused).pot = s.pot := by
    rw [potEvaluated_pot fun active hot => ?_, potO]
    rw [getLoop_of_lpu lpuO] at active
    unfold Hot at hot; rw [hardMax_of_limits sampled.limits] at hot
    exact cool active hot
  obtain ⟨state, ready, idle, feeder, -⟩ := (potNewPv_only (potEvaluated o pv unused) pv).rest
  rw [potE] at state ready idle feeder
  have kept := marked_pot (potNewPv (potEvaluated o pv unused) pv)
  have pumps := marked_pumps (potNewPv (potEvaluated o pv unused) pv)
  rw [← event] at kept pumps
  have process := (potEvaluated_beside o pv unused).process
  refine ⟨kept.state.trans state, kept.readyAt.trans ready, kept.idleFrom.trans idle, kept.feeder.trans feeder,
    fun e he => ?_⟩
  have entry : activePot (potEvaluated o pv unused) = some e :=
    (activePot_of_tbs (process.tbs.trans sampled.tbs)).trans he
  have hard : clamped (potEvaluated o pv unused) loopP e.runSp = clamped s loopP e.runSp := by
    unfold clamped; rw [hardMax_of_limits (process.limits.trans sampled.limits)]
  rw [pumps, potNewPv_pumps, judgePumpsStarted_iff (potEvaluated_pv o pv unused) entry, potE, hard]

theorem potEvent_idle (idle : s.pot.contact = none) : t.pot.contact = none ∧ t.trk = s.trk := by
  have potO : o.pot = s.pot := ho ▸ sampledAt_pot s i v seq p
  have trkO : o.trk = s.trk := ho ▸ (sampledAt_frame s i v seq p).trk
  have contact : (potEvaluated o pv unused).pot.contact = none :=
    (potEvaluated_beside_pot o pv unused).1.trans (by rw [potO]; exact idle)
  have kept := marked_pot (potNewPv (potEvaluated o pv unused) pv)
  have trk := (marked_beside (potNewPv (potEvaluated o pv unused) pv)).process.trk
  rw [← event, potNewPv_idle contact] at kept trk
  refine ⟨kept.contact.trans ((judgePumpsStarted_contact _).trans contact), trk.trans ?_⟩
  have same : (judgePumpsStarted (potEvaluated o pv unused)).trk = (potEvaluated o pv unused).trk := by
    rcases judgePumpsStarted_cases (potEvaluated o pv unused) with e | e <;> rw [e]
  exact same.trans ((potEvaluated_beside o pv unused).process.trk.trans trkO)

theorem potEvent_contact {c : Contact} {b : Board} (running : s.pot.contact = some c)
    (found : findBoard s c.board = some b) :
    let outside := ∃ r, boardRecipe s b.data = some r ∧ (pv < r.bandMin ∨ r.bandMax < pv)
    findBoard t c.board = some (waveSeen pv b) ∧
    (outside → t.pot.contact = some { c with reported := true } ∧
      (c.reported = false → t.ilu.slots[slotWaveNotReady].latched = true ∧
        t.ilu.slots[slotWaveNotReady].detail = c.tag)) ∧
    (¬ outside → t.pot.contact = some c) ∧
    (¬ outside ∨ c.reported = true → t.ilu.slots[slotWaveNotReady] = s.ilu.slots[slotWaveNotReady]) := by
  have sampled : Sampled s o i v seq p := ho ▸ sampledAt_sampled s i v seq p
  have potO : o.pot = s.pot := ho ▸ sampledAt_pot s i v seq p
  have trkO : o.trk = s.trk := ho ▸ (sampledAt_frame s i v seq p).trk
  have slotO : o.ilu.slots[slotWaveNotReady.val] = s.ilu.slots[slotWaveNotReady.val] := ho ▸ sampledAt_slot (by decide)
  have judged : ¬ Judged slotWaveNotReady := by unfold Judged; decide
  have evaluated := potEvaluated_beside o pv unused
  have contactE : (potEvaluated o pv unused).pot.contact = some c :=
    (potEvaluated_beside_pot o pv unused).1.trans (by rw [potO]; exact running)
  have foundE : findBoard (potEvaluated o pv unused) c.board = some b :=
    (findBoard_of_trk (evaluated.process.trk.trans trkO) _).trans found
  have slotE : (potEvaluated o pv unused).ilu.slots[slotWaveNotReady] = s.ilu.slots[slotWaveNotReady] :=
    (evaluated.framed.slots _ judged (by decide)).trans slotO
  have recipeE : boardRecipe (potEvaluated o pv unused) b.data = boardRecipe s b.data := by
    unfold boardRecipe activeRecipe; rw [evaluated.process.tbs, sampled.tbs]
  have taken := potNewPv_contact contactE foundE (potEvaluated_pv o pv unused)
  have kept := marked_pot (potNewPv (potEvaluated o pv unused) pv)
  have settled := marked_beside (potNewPv (potEvaluated o pv unused) pv)
  have slotT := settled.framed.slots _ judged List.not_mem_nil
  have trkT := settled.process.trk
  rw [← event] at kept slotT trkT
  dsimp only at taken
  rw [recipeE, ← kept.contact, ← slotT, slotE, ← findBoard_of_trk trkT] at taken
  exact taken

/-- All that the statement says of a new PV. -/
theorem potEvent_taken : PotPvTaken s t pv (sourceOf unused) := by
  have judged := potEvent_evaluated ho event
  refine ⟨judged, potEvent_source event, fun active fault =>
    potEvent_faulted ho event (Evaluated.hot judged active fault) active, fun same => potEvent_cool ho event fun active => ?_,
    potEvent_idle ho event, fun c b running found => ?_⟩
  · rcases same with same | resting
    · exact Evaluated.cool judged active same
    · exact absurd active resting
  · have taken := potEvent_contact ho event running found
    have seen : waveSeen pv b = { b with data := { b.data with wave := b.data.wave.map fun w =>
        { w with
          pvMin := some (min (w.pvMin.getD pv) pv)
          pvMax := some (max (w.pvMax.getD pv) pv) } } } := by
      unfold waveSeen
      rw [funext (see_eq pv)]
    rw [seen] at taken
    exact taken
end

end Sys2Proof.PreheatLoops
end

section
/-! THEOREM. O35: a fresh sample of a pot thermocouple. -/

namespace Sys2Proof.PreheatLoops

open Sys2Proof.Machine Sys2Proof.Safety Sys2Proof.SelectiveFluxing

/-- Settles O35: the table of R72 row by row; `potEvent_taken` for the PV each row gives. -/
theorem potSample : Obligations.PotSample := by
  unfold Obligations.PotSample
  intro s i x v seq p pair t usable formed degraded alone other
  have pair : PotPair i x := pair
  obtain ⟨o, ho⟩ : ∃ o, o = sampledAt s i v seq p := ⟨_, rfl⟩
  have sampled : Sampled s o i v seq p := ho ▸ sampledAt_sampled s i v seq p
  have ne : x ≠ i := by rcases pair with ⟨rfl, rfl⟩ | ⟨rfl, rfl⟩ <;> decide
  have signals (j : SignalId) : signal o j = signal (sampleSignal s i v seq p) j := by
    obtain ⟨a, m, e⟩ := sampledAt_eq s i v seq p
    rw [ho, e]; rfl
  obtain ⟨state, value⟩ := sampleSignal_same s i v seq p
  have own : classOf o i = .usable := classOf_eq_usable.mpr (.inl (by rw [signals]; exact state))
  have valueI : (signal o i).value = some v := by rw [signals]; exact value
  have signalX : signal o x = signal s x := by
    rw [signals]; exact signal_updSignal_other _ _ _ _ ne
  have usableX : classOf o x = .usable ↔ usable := by rw [classOf_eq_usable, signalX]
  have event {pv : Int} {unused : Option Int} (h : potPv o = .new pv unused) :
      t = settle (markDoubt (potNewPv (potEvaluated o pv unused) pv)) := by
    rw [← potSample_new h, ho]
    exact (freshSample_eq s i v seq p).trans (by rw [ownerSample_pot pair])
  have row {pv : Int} {d : Int} {src : PvSource} (h : potPv o = .new pv (some d)) (hs : sourceOf (some d) = src) :
      formed pv src ∧ t.ilu.slots[slotPotDegraded] = ⟨true, true, d⟩ :=
    ⟨hs ▸ potEvent_taken ho (event h), potEvent_degraded ho (event h)⟩
  have aloneX : sourceOf (some x.val) = alone := by rcases pair with ⟨rfl, rfl⟩ | ⟨rfl, rfl⟩ <;> rfl
  have otherI : sourceOf (some i.val) = other := by rcases pair with ⟨rfl, rfl⟩ | ⟨rfl, rfl⟩ <;> rfl
  obtain ⟨pv, unused, any⟩ := potPv_usable pair own
  obtain ⟨level, enabled⟩ := potEvent_levels ho (event any)
  obtain ⟨trk, length⟩ := potEvent_trk ho (event any)
  refine ⟨potEvent_sampled ho (event any), fun no => ?_, fun w yes hw => ?_, potEvent_framed ho (event any), level,
    enabled, trk, length⟩
  · exact row (potPv_single pair own (fun h => no (usableX.mp h)) valueI) aloneX
  · intro agree
    have usual := usableX.mpr yes
    have valueX : (signal o x).value = some w := by rw [signalX]; exact hw
    have agrees : Agree o v w ↔ agree := by unfold Agree; rw [activePot_of_tbs sampled.tbs]
    refine ⟨fun yes => ?_, fun no => ?_, fun no => ?_, fun no => ?_⟩
    · have mean := potPv_mean pair own usual valueI valueX (agrees.mpr yes)
      refine ⟨potEvent_taken ho (event mean), slotJudged_of_after (c := false) (by simp) ?_⟩
      exact potEvent_degraded ho (event mean)
    all_goals
      obtain ⟨lower, higher, tied⟩ := potPv_higher pair own usual valueI valueX fun h => no (agrees.mp h)
    · exact fun h => row (lower h) aloneX
    · exact fun h => row (higher h) otherI
    · intro h
      rcases tied h with first | second
      · exact .inl (row first aloneX)
      · exact .inr (row second otherI)

end Sys2Proof.PreheatLoops
end

section
/-! SUPPORT. The ages of a signal (R171, R173), and what each owner does when its signal is LOST (R172). -/

namespace Sys2Proof.PreheatLoops

open Sys2Proof.Machine Sys2Proof.Safety Sys2Proof.SelectiveFluxing

/-! ### A signal put to another state (R171, R173) -/

/-- A signal in another state, its value kept, with INPUT_HELD judged: `heldAt` and `lostAt` are its cases. -/
def aged (s : State) (i : SignalId) (x : SignalState) : State :=
  judgeInputHeld (updSignal s i fun g => { g with state := x }) i

/-- The signals with one put to another state. -/
def agedLnk (s : State) (i : SignalId) (x : SignalState) : Lnk :=
  { s.lnk with signals := s.lnk.signals.set i { signal s i with state := x } }

theorem becomeHeld_aged (s : State) (i : SignalId) : becomeHeld s i = settle (markDoubt (aged s i .held)) := rfl

theorem becomeLost_aged (s : State) (i : SignalId) :
    becomeLost s i = settle (markDoubt (ownerLost (aged s i .lost) i)) := rfl

section
variable (s : State) (i : SignalId) (x : SignalState)

/-- A signal's age moves its row and INPUT_HELD alone. -/
theorem aged_only : aged s i x = { s with lnk := agedLnk s i x, ilu := (aged s i x).ilu } := by
  unfold aged judgeInputHeld
  rw [judgeSlot_iluOnly]; rfl

theorem aged_lnk : (aged s i x).lnk = agedLnk s i x := by rw [aged_only]

theorem aged_tbs : (aged s i x).tbs = s.tbs := by rw [aged_only]

theorem aged_pot : (aged s i x).pot = s.pot := by rw [aged_only]

theorem aged_limits : (aged s i x).lst.limits = s.lst.limits := by rw [aged_only]

theorem getLoop_aged (l : LoopId) : getLoop (aged s i x) l = getLoop s l := by rw [aged_only]; rfl

theorem aged_slot {k : SlotId} (h : k ≠ slotInputHeld) :
    (aged s i x).ilu.slots[k.val] = s.ilu.slots[k.val] := judgeSlot_other h _ _

theorem aged_framed : Framed s (aged s i x) [slotInputHeld] [] [] := by
  have slots : SlotsKept s (aged s i x) [slotInputHeld] := fun k _ hk => aged_slot s i x (List.ne_of_not_mem_cons hk)
  refine ⟨?_, ?_, ?_, slots, ?_, ?_⟩ <;> rw [aged_only]
  · exact loopsKept_of_eq rfl []
  · exact ⟨rfl, fun _ => ⟨rfl, rfl⟩⟩
  · exact fun _ _ => rfl
  · exact fun _ _ => rfl
  · exact fun _ => .inl rfl

theorem signal_aged_other {j : SignalId} (h : j ≠ i) : signal (aged s i x) j = signal s j := by
  rw [← signal_updSignal_other s i j (fun g => { g with state := x }) h]
  unfold aged judgeInputHeld signal; rw [judgeSlot_lnk]

theorem signal_aged : signal (aged s i x) i = { signal s i with state := x } := by
  rw [← signal_updSignal s i fun g => { g with state := x }]
  unfold aged judgeInputHeld signal; rw [judgeSlot_lnk]
end

/-- A signal put to HELD makes INPUT_HELD live, with its id where it was not (R173). -/
theorem heldAt_slot (s : State) (i : SignalId) : (aged s i .held).ilu.slots[slotInputHeld.val] =
    slotAfter true i.val s.ilu.slots[slotInputHeld.val] := by
  have any : anyHeld (updSignal s i fun g => { g with state := .held }) = true :=
    anyHeld_iff.mpr ⟨i, by rw [signal_updSignal]⟩
  have slot := judgeSlot_same (updSignal s i fun g => { g with state := .held }) slotInputHeld
    (anyHeld (updSignal s i fun g => { g with state := .held })) i.val
  rw [any] at slot
  unfold aged judgeInputHeld
  rw [any]; exact slot

/-! ### What every loss leaves -/

/-- The slots that the loss of a signal can move, with INPUT_HELD. -/
def lossSlots : List SlotId :=
  [slotInputHeld, slotPotDegraded, slotWaveNotReady, slotOvertemp loopP, slotFilterLoaded hoodF,
    slotFilterLoaded hoodP, slotFilterBlocked hoodF, slotFilterBlocked hoodP] ++ allLoops.map slotStarved

/-- The loss of a signal leaves a loop that it does not feed. -/
def LossSpares (i : SignalId) (l : LoopId) : Prop := l.val ≠ i.val ∧ (l = loopP → i.val ≠ 7)

/-- What the loss of signal i leaves beside its owner's part. -/
structure LossFrame (i : SignalId) (s t : State) : Prop where
  tbs : t.tbs = s.tbs
  mge : t.mge = s.mge
  mdc : t.mdc = s.mdc
  lines : t.lines = s.lines
  now : t.now = s.now
  limits : t.lst.limits = s.lst.limits
  pos : t.trk.pos = s.trk.pos
  ring : t.trk.ring = s.trk.ring
  queue : t.trk.queue.length = s.trk.queue.length
  faults : FaultsKept s t []
  lockout : t.exu.lockout = s.exu.lockout
  loops : ∀ l : LoopId, LossSpares i l → LoopKept s t l
  slots : SlotsKept s t lossSlots

theorem LossFrame.trans {i : SignalId} {s t u : State} (h : LossFrame i s t) (k : LossFrame i t u) :
    LossFrame i s u where
  tbs := k.tbs.trans h.tbs
  mge := k.mge.trans h.mge
  mdc := k.mdc.trans h.mdc
  lines := k.lines.trans h.lines
  now := k.now.trans h.now
  limits := k.limits.trans h.limits
  pos := k.pos.trans h.pos
  ring := k.ring.trans h.ring
  queue := k.queue.trans h.queue
  faults := fun n hn => (k.faults n hn).trans (h.faults n hn)
  lockout := k.lockout.trans h.lockout
  loops := fun l hl => by
    obtain ⟨m, c, p, g, d, w⟩ := h.loops l hl
    obtain ⟨m', c', p', g', d', w'⟩ := k.loops l hl
    exact ⟨m'.trans m, c'.trans c, p'.trans p, g'.trans g, d'.trans d, w'.trans w⟩
  slots := fun j hj hk => (k.slots j hj hk).trans (h.slots j hj hk)

/-- A loss, as one event whose owner's part is beside its loop and slots. -/
theorem lossFrame_of_beside {i : SignalId} {s t : State} {ks : List SlotId} {ls : List LoopId}
    (h : Beside s t ks ls) (hk : ks ⊆ lossSlots) (hl : ∀ l ∈ ls, ¬ LossSpares i l) : LossFrame i s t where
  tbs := h.process.tbs
  mge := h.process.mge
  mdc := h.process.mdc
  lines := h.process.lines
  now := h.process.now
  limits := h.process.limits
  pos := by rw [h.process.trk]
  ring := by rw [h.process.trk]
  queue := by rw [h.process.trk]
  faults := h.framed.nozzles
  lockout := h.framed.hoods.1
  loops := fun l spared => h.framed.loops l fun mem => hl l mem spared
  slots := fun j hj hn => h.framed.slots j hj fun mem => hn (hk mem)

theorem aged_lossFrame (s : State) (i : SignalId) (x : SignalState) : LossFrame i s (aged s i x) := by
  obtain ⟨loops, hoods, nozzles, slots, -, -⟩ := aged_framed s i x
  have kept : SlotsKept s (aged s i x) lossSlots :=
    fun j hj hn => slots j hj fun mem => hn (List.mem_append_left _ (by rw [List.mem_singleton.mp mem]; simp))
  have loops' : ∀ l : LoopId, LossSpares i l → LoopKept s (aged s i x) l := fun l _ => loops l List.not_mem_nil
  constructor
  case faults => exact nozzles
  case lockout => exact hoods.1
  case loops => exact loops'
  case slots => exact kept
  all_goals rw [aged_only]

theorem marked_lossFrame (i : SignalId) (s : State) : LossFrame i s (settle (markDoubt s)) :=
  lossFrame_of_beside (marked_beside s) (List.nil_subset _) fun _ h => absurd h List.not_mem_nil

theorem potPvOnly_lossFrame {i : SignalId} {s t : State} (h : PotPvOnly s t) : LossFrame i s t := by
  obtain ⟨loops, hoods, nozzles, slots, -, -⟩ := h.framed
  have kept : SlotsKept s t lossSlots :=
    fun j hj hn => slots j hj fun mem => hn (List.mem_append_left _ (by rw [List.mem_singleton.mp mem]; simp))
  constructor
  case faults => exact nozzles
  case lockout => exact hoods.1
  case loops => exact fun l _ => loops l List.not_mem_nil
  case slots => exact kept
  case queue => exact h.queue
  all_goals rw [h.only]

theorem ductLost_lossFrame (i : SignalId) (s : State) (h : HoodId) : LossFrame i s (ductLost s h) :=
  ⟨rfl, rfl, rfl, rfl, rfl, rfl, rfl, rfl, rfl, fun _ _ => rfl, rfl, fun _ _ => ⟨rfl, rfl, rfl, rfl, rfl, rfl⟩,
    fun _ _ _ => rfl⟩

theorem filterLost_lossFrame (i : SignalId) (s : State) (h : HoodId) : LossFrame i s (filterLost s h) := by
  have both := (lowerSlot_beside s (slotFilterLoaded h)).andThen (lowerSlot_beside _ (slotFilterBlocked h))
  have named : ∀ h : HoodId, [slotFilterLoaded h] ++ [slotFilterBlocked h] ⊆ lossSlots := by decide
  exact lossFrame_of_beside both (named h) fun _ mem => absurd mem List.not_mem_nil

theorem starved_lossSlots (l : LoopId) : slotStarved l ∈ lossSlots := by revert l; decide

/-! ### The loop's part (R67, R79) -/

/-- What SENSOR_LOST makes of the loop it meets, its PV kept. -/
def LossFails (s t : State) (l : LoopId) : Prop :=
  (getLoop t l).pv = (getLoop s l).pv ∧
  ((getLoop s l).mode = .active → (getLoop t l).mode = .fault ∧ (getLoop t l).demand = 0 ∧
    (getLoop t l).causes = ⟨true, false, false⟩) ∧
  ((getLoop s l).mode = .fault → (getLoop t l).mode = .fault ∧
    (getLoop t l).causes = { (getLoop s l).causes with sensorLost := true }) ∧
  ((getLoop s l).mode = .off → (getLoop t l).mode = .off)

theorem lossFails_of {s u t : State} {l : LoopId} (same : getLoop u l = getLoop s l)
    (h : LoopKept (loopFault u l .sensorLost) t l) : LossFails s t l := by
  obtain ⟨mode, causes, pv, -, demand, -⟩ := h
  rw [getLoop_loopFault, same] at mode causes pv demand
  obtain ⟨value, -⟩ := faulted_fields .sensorLost (getLoop s l)
  refine ⟨pv.trans value, fun active => ?_, fun fault => ?_, fun off => ?_⟩
  · rw [faulted_active active] at mode causes demand
    exact ⟨mode, demand, causes⟩
  · rw [faulted_fault fault] at mode causes
    exact ⟨mode.trans fault, causes⟩
  · rw [faulted_off off] at mode
    exact mode.trans off

end Sys2Proof.PreheatLoops
end

section
/-! SUPPORT. A pot thermocouple LOST (R72, R73, R79, R80). -/

namespace Sys2Proof.PreheatLoops

open Sys2Proof.Machine Sys2Proof.Safety Sys2Proof.SelectiveFluxing

/-! ### The rows of R72 with one thermocouple lost -/

theorem loopSignalLost_of {s t : State} (lnk : t.lnk = s.lnk) (tbs : t.tbs = s.tbs) (l : LoopId) :
    loopSignalLost t l = loopSignalLost s l := by
  unfold loopSignalLost
  simp only [classOf_congr lnk tbs]

theorem classOf_aged_other (s : State) {i j : SignalId} (x : SignalState) (h : j ≠ i) :
    classOf (aged s i x) j = classOf s j := by
  unfold classOf mapped mapOf
  rw [signal_aged_other s i x h, aged_tbs]

theorem classOf_lost (s : State) (i : SignalId) : classOf (aged s i .lost) i = .lost :=
  classOf_eq_lost.mpr (.inl (by rw [signal_aged]))

theorem PotPair.ne {i o : SignalId} (pair : PotPair i o) : o ≠ i := by
  rcases pair with ⟨rfl, rfl⟩ | ⟨rfl, rfl⟩ <;> decide

theorem PotPair.symm {i o : SignalId} (pair : PotPair i o) : PotPair o i := by
  rcases pair with h | h
  · exact .inr ⟨h.2, h.1⟩
  · exact .inl ⟨h.2, h.1⟩

section
variable {s : State} {i o : SignalId} (pair : PotPair i o)
include pair

theorem loopSignalLost_pair : loopSignalLost s loopP = true ↔ classOf s i = .lost ∧ classOf s o = .lost := by
  have both : loopSignalLost s loopP = true ↔ classOf s sigPA = .lost ∧ classOf s sigPB = .lost := by
    unfold loopSignalLost
    rw [dif_neg (by decide), Bool.and_eq_true, decide_eq_true_iff, decide_eq_true_iff]
  rcases pair with ⟨rfl, rfl⟩ | ⟨rfl, rfl⟩
  · exact both
  · exact both.trans And.comm

theorem potPv_bothLost (own : classOf s i = .lost) (other : classOf s o = .lost) : potPv s = .kept := by
  rcases pair with ⟨rfl, rfl⟩ | ⟨rfl, rfl⟩ <;> unfold potPv <;> rw [own, other]

theorem potPv_oneAwaited (own : classOf s i = .lost) (other : classOf s o = .awaited) : potPv s = .absent := by
  rcases pair with ⟨rfl, rfl⟩ | ⟨rfl, rfl⟩ <;> unfold potPv <;> rw [own, other]
end

/-! ### The pot's part, row by row (R79) -/

/-- Loop P with its PV kept, none of the signals forming it. -/
def potUnread (s : State) : State := lowerSlot (putPotPv s (getLoop s loopP).pv .none) slotPotDegraded

/-- Loop P without a PV. -/
def potAwaited (s : State) : State :=
  lowerSlot (lowerSlot (putPotPv s none .none) (slotOvertemp loopP)) slotPotDegraded

/-- Loop P on the PV of the other thermocouple, OVERTEMP and band judged. -/
def potRejudged (s : State) (pv : Int) (unused : Option Int) : State :=
  judgeBand (judgeOvertemp (potFormed s pv unused) loopP) loopP

theorem getLoop_potUnread (s : State) : getLoop (potUnread s) loopP = getLoop s loopP :=
  getLoop_updLoop s loopP fun x => { x with pv := (getLoop s loopP).pv }

theorem getLoop_potAwaited (s : State) : getLoop (potAwaited s) loopP = { getLoop s loopP with pv := none } :=
  getLoop_updLoop s loopP fun x => { x with pv := none }

theorem potUnread_beside (s : State) : Beside s (potUnread s) [slotPotDegraded] [loopP] :=
  (putPotPv_beside s _ _).andThen (lowerSlot_beside _ slotPotDegraded)

theorem potAwaited_beside (s : State) : Beside s (potAwaited s) [slotOvertemp loopP, slotPotDegraded] [loopP] :=
  ((putPotPv_beside s _ _).andThen (lowerSlot_beside _ (slotOvertemp loopP))).andThen
    (lowerSlot_beside _ slotPotDegraded)

theorem judgeBand_beside (s : State) (l : LoopId) : Beside s (judgeBand s l) [] [l] := updLoop_beside s l _

theorem potRejudged_beside (s : State) (pv : Int) (unused : Option Int) : Beside s (potRejudged s pv unused)
    [slotPotDegraded, slotOvertemp loopP, slotStarved loopP] [loopP] :=
  (((potFormed_beside s pv unused).andThen (judgeOvertemp_beside _ loopP)).andThen (judgeBand_beside _ loopP)).mono
    (by simp) (by simp)

theorem potClassChange_bothLost {s : State} (row : potPv s = .kept) (lost : loopSignalLost s loopP = true) :
    potClassChange s = loopFault (potUnread s) loopP .sensorLost := by
  have formed : formPotPv s = potUnread s := by unfold formPotPv; rw [row]; rfl
  unfold potClassChange
  dsimp only
  rw [formed, potPv_congr (s := s) (t := potUnread s) rfl rfl, row]
  exact if_pos ((loopSignalLost_of (t := potUnread s) (s := s) rfl rfl loopP).trans lost)

theorem potClassChange_oneAwaited {s : State} (row : potPv s = .absent) (read : loopSignalLost s loopP = false) :
    potClassChange s = judgeBand (potAwaited s) loopP := by
  have none : (getLoop (putPotPv s Option.none .none) loopP).pv = Option.none := by
    rw [show getLoop (putPotPv s Option.none .none) loopP = { getLoop s loopP with pv := Option.none } from
      getLoop_updLoop s loopP fun x => { x with pv := Option.none }]
  have formed : formPotPv s = potAwaited s := by
    unfold formPotPv
    rw [row]
    dsimp only
    rw [judgeOvertemp_absent none]; rfl
  have still : loopSignalLost (judgeBand (potAwaited s) loopP) loopP = false :=
    (loopSignalLost_of (t := judgeBand (potAwaited s) loopP) (s := s) rfl rfl loopP).trans read
  unfold potClassChange
  dsimp only
  rw [formed, potPv_congr (s := s) (t := potAwaited s) rfl rfl, row]
  exact if_neg (by rw [still]; exact Bool.false_ne_true)

theorem potClassChange_otherRead {s : State} {pv : Int} {unused : Option Int} (row : potPv s = .new pv unused)
    (read : loopSignalLost s loopP = false) : potClassChange s = potNewPv (potRejudged s pv unused) pv := by
  have process := (potRejudged_beside s pv unused).process
  have only := (potNewPv_only (potRejudged s pv unused) pv).only
  have lnk : (potNewPv (potRejudged s pv unused) pv).lnk = s.lnk := (congrArg State.lnk only).trans process.lnk
  have tbs : (potNewPv (potRejudged s pv unused) pv).tbs = s.tbs := (congrArg State.tbs only).trans process.tbs
  have still := (loopSignalLost_of lnk tbs loopP).trans read
  unfold potClassChange
  dsimp only
  rw [formPotPv_new row, potPv_potFormed, row]
  exact if_neg (by rw [show judgeBand (judgeOvertemp (potFormed s pv unused) loopP) loopP =
    potRejudged s pv unused from rfl, still]; exact Bool.false_ne_true)

end Sys2Proof.PreheatLoops
end

section
/-! SUPPORT. What the loss of a pot thermocouple leaves after its event (R68, R72, R73, R79, R80, R110). -/

namespace Sys2Proof.PreheatLoops

open Sys2Proof.Machine Sys2Proof.Safety Sys2Proof.SelectiveFluxing

theorem PotFaulted.of_same {s u t : State} (h : PotFaulted u t) (pot : u.pot = s.pot) (tbs : u.tbs = s.tbs)
    (now : u.now = s.now) : PotFaulted s t := by
  obtain ⟨⟨feeder, enabled, grams⟩, state, idle, pumps, level, contact⟩ := h
  rw [pot] at enabled level contact
  refine ⟨⟨feeder, enabled, fun e t0 he fed => ?_⟩, state, idle, pumps, level, contact⟩
  have since : FedSince u t0 := by unfold FedSince; rw [pot]; exact fed
  rw [grams e t0 ((activePot_of_tbs tbs).trans he) since, pot, now]

theorem marked_potFaulted {s u : State} (h : PotFaulted s u) : PotFaulted s (settle (markDoubt u)) :=
  h.kept (marked_pot u) (marked_pumps u)

/-- A slot after its judgement in the event and the marks after it. -/
theorem marked_slot (u : State) {k : SlotId} (h : ¬ Judged k) :
    (settle (markDoubt u)).ilu.slots[k.val] = u.ilu.slots[k.val] :=
  (marked_beside u).framed.slots k h List.not_mem_nil

theorem marked_loop (u : State) (l : LoopId) : LoopKept u (settle (markDoubt u)) l :=
  (marked_beside u).framed.loops l List.not_mem_nil

theorem degraded_notJudged : ¬ Judged slotPotDegraded := by unfold Judged; decide

/-- SENSOR_LOST after an event that left its slot (R80). -/
theorem marked_sensor {s u : State} {l : LoopId} {holds : Prop}
    (slot : u.ilu.slots[(slotSensorLost l).val] = s.ilu.slots[(slotSensorLost l).val])
    (iff : ((getLoop u l).mode ≠ .off ∧ loopSignalLost u l = true) ↔ holds) :
    SlotJudged s (settle (markDoubt u)) (slotSensorLost l) holds l.val := by
  have core := markDoubt_core u
  have judged := settle_sensor (markDoubt u) l
  have ilu : (markDoubt u).ilu = u.ilu := (markDoubt_flxOnly u).ilu
  rw [loopSignalLost_congr core, (loopKept_of_core core l).1, iff] at judged
  unfold SlotJudged at judged ⊢
  rw [ilu, Fin.getElem_fin, slot] at judged
  exact judged

section
variable {s t : State} {i o : SignalId} (pair : PotPair i o)
  (event : t = settle (markDoubt (potClassChange (aged s i .lost))))
include pair event

/-- Both lost: the PV kept, SENSOR_LOST, and an ACTIVE loop faulted with the pot. -/
theorem potLost_both (other : classOf s o = .lost) : LossFails s t loopP ∧
    SlotJudged s t slotPotDegraded False 0 ∧
    SlotJudged s t (slotSensorLost loopP) ((getLoop s loopP).mode ≠ .off) loopP.val ∧
    ((getLoop s loopP).mode = .active → PotFaulted s t) ∧
    ((getLoop s loopP).mode ≠ .active → PotKept s t) := by
  obtain ⟨a, ha⟩ : ∃ a, a = aged s i .lost := ⟨_, rfl⟩
  have own : classOf a i = .lost := ha ▸ classOf_lost s i
  have other' : classOf a o = .lost := ha ▸ (classOf_aged_other s .lost pair.ne).trans other
  have lost := (loopSignalLost_pair pair).mpr ⟨own, other'⟩
  have loop : getLoop (potUnread a) loopP = getLoop s loopP :=
    (getLoop_potUnread a).trans (ha ▸ getLoop_aged s i .lost loopP)
  have pot : (potUnread a).pot = s.pot := (ha ▸ aged_pot s i .lost : a.pot = s.pot)
  have tbs : (potUnread a).tbs = s.tbs := (ha ▸ aged_tbs s i .lost : a.tbs = s.tbs)
  have now : (potUnread a).now = s.now := by
    rw [(potUnread_beside a).process.now, ha]; exact (aged_lossFrame s i .lost).now
  have slot {k : SlotId} (hk : k ≠ slotInputHeld) : a.ilu.slots[k.val] = s.ilu.slots[k.val] :=
    ha ▸ aged_slot s i .lost hk
  rw [← ha, potClassChange_bothLost (potPv_bothLost pair own other') lost] at event
  obtain ⟨u, hu⟩ : ∃ u, u = loopFault (potUnread a) loopP .sensorLost := ⟨_, rfl⟩
  rw [← hu] at event
  rw [event]
  have kept := marked_loop u loopP
  refine ⟨lossFails_of loop (hu ▸ kept), slotJudged_of_after (c := false) (by simp) ?_, marked_sensor ?_ ?_,
    fun active => ?_, fun resting => ?_⟩
  · rw [marked_slot u degraded_notJudged, hu, loopFault_slot _ _ _ (by decide),
      potUnread, lowerSlot_same _ _ 0, ← slot (k := slotPotDegraded) (by decide)]
    rfl
  · rw [hu, loopFault_slot _ _ _ (by decide), potUnread, lowerSlot_other (by decide)]
    exact slot (by decide)
  · have process := (loopFault_beside (potUnread a) loopP .sensorLost).process
    have signals : loopSignalLost u loopP = true := by
      rw [hu, loopSignalLost_of process.lnk process.tbs, loopSignalLost_of (s := a) (t := potUnread a) rfl rfl]
      exact lost
    obtain ⟨-, -, -, off⟩ := faulted_fields .sensorLost (getLoop s loopP)
    rw [signals, hu, getLoop_loopFault, loop]
    simp [off]
  · exact marked_potFaulted (hu ▸ (loopFault_potFaulted (loop ▸ active) .sensorLost).of_same pot tbs now)
  · refine potKept_trans (potKept_of_eq ?_) (marked_pot u)
    rw [hu, loopFault_pot (fun _ => loop ▸ resting)]
    exact pot

/-- The other awaited: the PV absent. -/
theorem potLost_awaited (other : classOf s o = .awaited) : (getLoop t loopP).pv = none ∧
    SlotJudged s t slotPotDegraded False 0 ∧ (getLoop t loopP).mode = (getLoop s loopP).mode := by
  obtain ⟨a, ha⟩ : ∃ a, a = aged s i .lost := ⟨_, rfl⟩
  have own : classOf a i = .lost := ha ▸ classOf_lost s i
  have other' : classOf a o = .awaited := ha ▸ (classOf_aged_other s .lost pair.ne).trans other
  have read : loopSignalLost a loopP = false := Bool.eq_false_of_not_eq_true fun h => by
    rw [((loopSignalLost_pair pair).mp h).2] at other'; cases other'
  have loop : getLoop (potAwaited a) loopP = { getLoop s loopP with pv := none } := by
    rw [getLoop_potAwaited, ha, getLoop_aged]
  have slot : a.ilu.slots[slotPotDegraded.val] = s.ilu.slots[slotPotDegraded.val] := ha ▸ aged_slot s i .lost (by decide)
  rw [← ha, potClassChange_oneAwaited (potPv_oneAwaited pair own other') read, judgeBand_eq] at event
  obtain ⟨u, hu⟩ : ∃ u, u = updLoop (potAwaited a) loopP
      (banded (potAwaited a).now (inBandNow (potAwaited a) loopP)) := ⟨_, rfl⟩
  rw [← hu] at event
  obtain ⟨mode, -, pv, -⟩ := marked_loop u loopP
  rw [hu, getLoop_updLoop, loop, ← hu] at mode pv
  rw [event]
  refine ⟨pv.trans (banded_pv _ _ _), slotJudged_of_after (c := false) (by simp) ?_, mode.trans (banded_mode _ _ _)⟩
  rw [marked_slot u degraded_notJudged, ← slot, hu]
  exact (lowerSlot_same _ slotPotDegraded 0).trans (congrArg (slotAfter false 0) (lowerSlot_other (by decide)))

/-- The other usable: its PV, POT_TC_DEGRADED live with the id of the lost one, OVERTEMP judged. -/
theorem potLost_usable {v : Int} (other : classOf s o = .usable) (value : (signal s o).value = some v) :
    (getLoop t loopP).pv = some v ∧ t.ilu.slots[slotPotDegraded] = ⟨true, true, i.val⟩ ∧
    (∀ x, hardMax s loopP = some x → SlotJudged s t (slotOvertemp loopP) (x < v) v) ∧
    (Hot s loopP v → (getLoop s loopP).mode = .active →
      (getLoop t loopP).mode = .fault ∧ t.pot.state = .fault) ∧
    (¬ Hot s loopP v → (getLoop t loopP).mode = (getLoop s loopP).mode ∧
      (getLoop t loopP).causes = (getLoop s loopP).causes ∧ t.pot.state = s.pot.state ∧
      t.pot.feeder = s.pot.feeder) := by
  obtain ⟨a, ha⟩ : ∃ a, a = aged s i .lost := ⟨_, rfl⟩
  have own : classOf a i = .lost := ha ▸ classOf_lost s i
  have other' : classOf a o = .usable := ha ▸ (classOf_aged_other s .lost pair.ne).trans other
  have value' : (signal a o).value = some v := by rw [ha, signal_aged_other _ _ _ pair.ne]; exact value
  have row : potPv a = .new v (some i.val) := potPv_single pair.symm other' (by rw [own]; simp) value'
  have read : loopSignalLost a loopP = false := Bool.eq_false_of_not_eq_true fun h => by
    rw [((loopSignalLost_pair pair).mp h).2] at other'; cases other'
  rw [← ha, potClassChange_otherRead row read] at event
  obtain ⟨f, hf⟩ : ∃ f, f = potFormed a v (some i.val) := ⟨_, rfl⟩
  obtain ⟨j, hj⟩ : ∃ j, j = judgeOvertemp f loopP := ⟨_, rfl⟩
  obtain ⟨r, hr⟩ : ∃ r, r = potRejudged a v (some i.val) := ⟨_, rfl⟩
  have shape : r = updLoop j loopP (banded j.now (inBandNow j loopP)) := by rw [hr, hj, hf]; rfl
  rw [← hr] at event
  obtain ⟨u, hu⟩ : ∃ u, u = potNewPv r v := ⟨_, rfl⟩
  rw [← hu] at event
  have only : PotPvOnly r u := hu ▸ potNewPv_only r v
  have loopF : getLoop f loopP = { getLoop s loopP with pv := some v } := by
    rw [hf, potFormed_loop, ha, getLoop_aged]
  have pvF : (getLoop f loopP).pv = some v := by rw [loopF]
  have limits : f.lst.limits = s.lst.limits := by
    rw [hf, (potFormed_beside a v (some i.val)).process.limits, ha, aged_limits]
  have hots : Hot f loopP v ↔ Hot s loopP v := by unfold Hot; rw [hardMax_of_limits limits]
  have potF : f.pot = s.pot := by rw [hf, potFormed_pot, ha, aged_pot]
  have loopR : getLoop r loopP = banded j.now (inBandNow j loopP) (getLoop j loopP) := by
    rw [shape, getLoop_updLoop]
  obtain ⟨mode, causes, pv, -⟩ : LoopKept r (settle (markDoubt u)) loopP := by
    have kept := marked_loop u loopP
    unfold LoopKept at kept ⊢
    rw [getLoop_of_lpu (t := u) (s := r) (by rw [only.only])] at kept
    exact kept
  rw [loopR, banded_mode] at mode
  rw [loopR, banded_causes] at causes
  rw [loopR, banded_pv] at pv
  obtain ⟨potState, -, -, potFeeder, -⟩ := only.rest
  have potR : r.pot = j.pot := by rw [shape]; rfl
  have kept := marked_pot u
  have slotT {k : SlotId} (hk : ¬ Judged k) (ne : k ≠ slotWaveNotReady) :
      (settle (markDoubt u)).ilu.slots[k.val] = j.ilu.slots[k.val] := by
    rw [marked_slot u hk, only.slots k ne, shape]; rfl
  have slotA {k : SlotId} (hk : k ≠ slotInputHeld) : a.ilu.slots[k.val] = s.ilu.slots[k.val] :=
    ha ▸ aged_slot s i .lost hk
  rw [event]
  refine ⟨?_, ?_, fun x hx => ?_, fun hot active => ?_, fun cool => ?_⟩
  · rw [pv]
    by_cases hot : Hot f loopP v
    · obtain ⟨same, -⟩ := faulted_fields .overtemp (getLoop f loopP)
      rw [hj, getLoop_judgeOvertemp_hot pvF hot, same, pvF]
    · rw [hj, getLoop_judgeOvertemp_cool fun w hw => by rw [pvF] at hw; cases hw; exact hot, pvF]
  · have left := (judgeOvertemp_beside f loopP).framed.slots slotPotDegraded degraded_notJudged (by decide)
    rw [Fin.getElem_fin] at left ⊢
    rw [slotT degraded_notJudged (by decide), hj]
    refine left.trans ?_
    rw [Fin.getElem_fin, hf, potFormed_slot]; rfl
  · refine slotJudged_of_after (c := decide (x < v)) (by simp) ?_
    rw [slotT (overtemp_notJudged loopP) (by decide), hj,
      judgeOvertemp_slot pvF ((hardMax_of_limits limits loopP).trans hx), hf,
      potFormed_slot_other _ _ _ (by decide), slotA (by decide)]
  · have faulted := judgeOvertemp_potFaulted pvF (hots.mpr hot) (by rw [loopF]; exact active)
    rw [← hj] at faulted
    rw [mode, hj, getLoop_judgeOvertemp_hot pvF (hots.mpr hot), loopF, faulted_active (by exact active)]
    refine ⟨rfl, ?_⟩
    rw [kept.state, potState, potR, faulted.state]
  · have cool' : ∀ w, (getLoop f loopP).pv = some w → ¬ Hot f loopP w := by
      intro w hw; rw [pvF] at hw; cases hw; exact fun h => cool (hots.mp h)
    have still : j.pot = s.pot := (hj ▸ judgeOvertemp_pot fun _ _ => cool' : j.pot = f.pot).trans potF
    rw [mode, causes, hj, getLoop_judgeOvertemp_cool cool', loopF, kept.state, kept.feeder, potState, potFeeder, potR,
      still]
    exact ⟨rfl, rfl, rfl, rfl⟩
end

end Sys2Proof.PreheatLoops
end

section
/-! SUPPORT. The loss of a signal, owner by owner (R171, R172), and its timers. -/

namespace Sys2Proof.PreheatLoops

open Sys2Proof.Machine Sys2Proof.Safety Sys2Proof.SelectiveFluxing

/-! ### Owners -/

/-- A signal's owner at its loss: a zone, the pot, the feeder, a hood, or one judged after every event alone. -/
theorem signal_owner (i : SignalId) : (∃ k, i = zoneSignal k) ∨ (∃ o, PotPair i o) ∨ i = sigFeed ∨
    (∃ h, i = sigDuct h) ∨ (∃ h, i = sigFilter h) ∨ i ∈ [sigFlux, sigProbe, 10, 11, 17, 18] := by
  unfold PotPair
  revert i; decide

theorem ownerLost_zone (s : State) (k : ZoneId) :
    ownerLost s (zoneSignal k) = loopFault s (zoneLoop k) .sensorLost := by
  unfold ownerLost
  rw [dif_pos (show (zoneSignal k).val < 6 from k.isLt)]; rfl

theorem ownerLost_pot {i o : SignalId} (pair : PotPair i o) (s : State) : ownerLost s i = potClassChange s := by
  rcases pair with ⟨rfl, rfl⟩ | ⟨rfl, rfl⟩ <;> rfl

theorem ownerLost_feed (s : State) : ownerLost s sigFeed = feederOff s := rfl

theorem ownerLost_none {i : SignalId} (h : i ∈ [sigFlux, sigProbe, 10, 11, 17, 18]) (s : State) :
    ownerLost s i = s := by
  simp only [List.mem_cons, List.not_mem_nil, or_false] at h
  rcases h with rfl | rfl | rfl | rfl | rfl | rfl <;> rfl

theorem PotPair.not_spared {i o : SignalId} (pair : PotPair i o) : ¬ LossSpares i loopP := by
  rintro ⟨ne, seven⟩
  rcases pair with ⟨rfl, -⟩ | ⟨rfl, -⟩
  · exact ne rfl
  · exact seven rfl rfl

/-- The pot's part at a loss, row by row. -/
theorem potClassChange_loss {i o : SignalId} (pair : PotPair i o) {a : State} (own : classOf a i = .lost) :
    LossFrame i a (potClassChange a) ∧ (potClassChange a).lnk = a.lnk := by
  have spared : ∀ l ∈ [loopP], ¬ LossSpares i l := fun l hl => List.mem_singleton.mp hl ▸ pair.not_spared
  have frame {u : State} {ks : List SlotId} (h : Beside a u ks [loopP]) (hk : ks ⊆ lossSlots) :
      LossFrame i a u ∧ u.lnk = a.lnk := ⟨lossFrame_of_beside h hk spared, h.process.lnk⟩
  have read (h : classOf a o ≠ .lost) : loopSignalLost a loopP = false :=
    Bool.eq_false_of_not_eq_true fun both => h ((loopSignalLost_pair pair).mp both).2
  cases other : classOf a o with
  | lost =>
    rw [potClassChange_bothLost (potPv_bothLost pair own other) ((loopSignalLost_pair pair).mpr ⟨own, other⟩)]
    exact frame (((potUnread_beside a).andThen (loopFault_beside _ loopP .sensorLost)).mono
      (ls' := [loopP]) (List.Subset.refl _) (by simp)) (by decide)
  | awaited =>
    rw [potClassChange_oneAwaited (potPv_oneAwaited pair own other) (read (by rw [other]; simp))]
    exact frame (((potAwaited_beside a).andThen (judgeBand_beside _ loopP)).mono
      (ls' := [loopP]) (List.Subset.refl _) (by simp)) (by decide)
  | usable =>
    obtain ⟨pv, unused, row⟩ := potPv_usable pair.symm other
    rw [potClassChange_otherRead row (read (by rw [other]; simp))]
    have only := potNewPv_only (potRejudged a pv unused) pv
    obtain ⟨first, lnk⟩ := frame (potRejudged_beside a pv unused) (by decide)
    exact ⟨first.trans (potPvOnly_lossFrame only), (congrArg State.lnk only.only).trans lnk⟩

theorem ownerLost_loss {a : State} {i : SignalId} (own : classOf a i = .lost) :
    LossFrame i a (ownerLost a i) ∧ (ownerLost a i).lnk = a.lnk := by
  have alone {u : State} (h : Beside a u [] []) : LossFrame i a u ∧ u.lnk = a.lnk :=
    ⟨lossFrame_of_beside h (List.nil_subset _) fun _ mem => absurd mem List.not_mem_nil, h.process.lnk⟩
  rcases signal_owner i with ⟨k, rfl⟩ | ⟨o, pair⟩ | rfl | ⟨h, rfl⟩ | ⟨h, rfl⟩ | rest
  · have fault := loopFault_beside a (zoneLoop k) .sensorLost
    rw [ownerLost_zone]
    refine ⟨lossFrame_of_beside fault (by simp [starved_lossSlots]) fun l hl spared => ?_, fault.process.lnk⟩
    rw [List.mem_singleton.mp hl] at spared
    exact spared.1 rfl
  · rw [ownerLost_pot pair]
    exact potClassChange_loss pair own
  · rw [ownerLost_feed]
    exact alone (feederOff_beside a)
  · rw [ownerLost_duct]
    exact ⟨ductLost_lossFrame _ a h, rfl⟩
  · rw [ownerLost_filter]
    exact ⟨filterLost_lossFrame _ a h, rfl⟩
  · rw [ownerLost_none rest]
    exact alone (.refl a [] [])

/-- An owner other than the pot's leaves the pot. -/
theorem ownerLost_potKept {i : SignalId} (a : State) (first : i ≠ sigPA) (second : i ≠ sigPB) (feed : i ≠ sigFeed) :
    (ownerLost a i).pot = a.pot := by
  rcases signal_owner i with ⟨k, rfl⟩ | ⟨o, pair⟩ | rfl | ⟨h, rfl⟩ | ⟨h, rfl⟩ | rest
  · rw [ownerLost_zone, loopFault_pot fun p => absurd p (zoneLoop_ne_loopP k)]
  · rcases pair with ⟨e, -⟩ | ⟨e, -⟩
    · exact absurd e first
    · exact absurd e second
  · exact absurd rfl feed
  · rw [ownerLost_duct]; rfl
  · rw [ownerLost_filter]; rfl
  · rw [ownerLost_none rest]

/-! ### The event -/

section
variable {s t : State} {i : SignalId} (event : t = becomeLost s i)
include event

/-- The loss moves the row of its signal, and what its owner's part may. -/
theorem lost_frame : t.lnk = agedLnk s i .lost ∧ LossFrame i s t := by
  obtain ⟨owner, lnk⟩ := ownerLost_loss (classOf_lost s i)
  rw [becomeLost_aged] at event
  generalize ownerLost (aged s i .lost) i = u at event owner lnk
  subst event
  exact ⟨(settled_lnk u).trans (lnk.trans (aged_lnk s i .lost)),
    ((aged_lossFrame s i .lost).trans owner).trans (marked_lossFrame i u)⟩

/-- The loop of a zone thermocouple meets SENSOR_LOST (R79). -/
theorem lost_zone {l : LoopId} (same : l.val = i.val) (zone : l.val < 6) : LossFails s t l := by
  obtain rfl : i = zoneSignal ⟨l.val, zone⟩ := Fin.ext same.symm
  rw [becomeLost_aged, ownerLost_zone] at event
  rw [event]
  exact lossFails_of (getLoop_aged s _ .lost l) (marked_loop _ l)

/-- The feeder turns off, still enabled and its run accounted (R126, R128). -/
theorem lost_feed (feed : i = sigFeed) : Unfed s t := by
  subst feed
  rw [becomeLost_aged, ownerLost_feed] at event
  have pot := aged_pot s sigFeed .lost
  have tbs := aged_tbs s sigFeed .lost
  have now := (aged_lossFrame s sigFeed .lost).now
  generalize aged s sigFeed .lost = a at event pot tbs now
  obtain ⟨feeder, enabled, grams⟩ := feederOff_unfed a
  have kept := marked_pot (feederOff a)
  rw [← event] at kept
  refine ⟨kept.feeder.trans feeder, kept.feederEnabled.trans (enabled.trans (by rw [pot])), fun e t1 he fed => ?_⟩
  have since : FedSince a t1 := by unfold FedSince; rw [pot]; exact fed
  rw [kept.grams, grams e t1 ((activePot_of_tbs tbs).trans he) since, pot, now]

/-- Another signal's loss leaves the pot. -/
theorem lost_potKept (first : i ≠ sigPA) (second : i ≠ sigPB) (feed : i ≠ sigFeed) : PotKept s t := by
  have pot := (ownerLost_potKept (aged s i .lost) first second feed).trans (aged_pot s i .lost)
  rw [becomeLost_aged] at event
  generalize ownerLost (aged s i .lost) i = u at event pot
  rw [event]
  exact potKept_trans (potKept_of_eq pot) (marked_pot u)
end

theorem becomeLost_pot {s : State} {i o : SignalId} (pair : PotPair i o) :
    becomeLost s i = settle (markDoubt (potClassChange (aged s i .lost))) := by
  rw [becomeLost_aged, ownerLost_pot pair]

/-! ### The timers (R171) -/

theorem exec_absent {s : State} (run : Running s) (i : SignalId) :
    exec (.absentTimeout i) s = .next (ifDue (absentDue s i) s (becomeLost s i)) :=
  unlessHeld_running run fun s => ifDue (absentDue s i) s (becomeLost s i)

section
variable {s : State} {i : SignalId} {m : MapEntry} {t0 : Time} {hold lost : Nat}

theorem holdDue_eq (state : (signal s i).state = .valid) (fresh : (signal s i).fresh = some t0)
    (entry : mapOf s i.val = some m) (has : m.hold = some hold) :
    holdDue s i = decide (hold ≤ elapsed s.now t0) := by
  unfold holdDue holdOfSignal
  simp only [state, fresh, entry, Option.bind_some, has]

theorem lostDue_eq (state : (signal s i).state = .held) (fresh : (signal s i).fresh = some t0)
    (entry : mapOf s i.val = some m) (has : m.lost = some lost) :
    lostDue s i = decide (lost ≤ elapsed s.now t0) := by
  unfold lostDue lostOfSignal
  simp only [state, fresh, entry, Option.bind_some, has]

theorem absentDue_eq (state : (signal s i).state = .absent) (since : s.lnk.mapSince = some t0)
    (entry : mapOf s i.val = some m) (has : m.lost = some lost) :
    absentDue s i = decide (lost ≤ elapsed s.now t0) := by
  unfold absentDue lostOfSignal
  simp only [state, since, entry, Option.bind_some, has]
end

/-- A timer that is due at its time: sooner it changes nothing. -/
theorem timed {c : Bool} {n e : Nat} {s u : State} (due : c = decide (n ≤ e)) :
    (e < n → ifDue c s u = s) ∧ (n ≤ e → ifDue c s u = u) :=
  ⟨fun early => ifDue_false (by rw [due]; exact decide_eq_false (not_le.mpr early)) s u,
    fun late => ifDue_true (by rw [due]; exact decide_eq_true late) s u⟩

/-! ### HELD (R171, R173) -/

theorem held_event (s : State) (i : SignalId) : ∃ t, becomeHeld s i = t ∧ t.lnk = agedLnk s i .held ∧
    SlotJudged s t slotInputHeld True i.val ∧ LossFrame i s t ∧ t.trk = s.trk ∧
    Framed s t [slotInputHeld] [] [] ∧ PotKept s t := by
  have held := heldAt_slot s i
  have framed := aged_framed s i .held
  have frame := aged_lossFrame s i .held
  have lnk := aged_lnk s i .held
  have pot := aged_pot s i .held
  have trk : (aged s i .held).trk = s.trk := by rw [aged_only]
  rw [becomeHeld_aged]
  generalize aged s i .held = a at *
  have marked := marked_beside a
  refine ⟨_, rfl, (settled_lnk a).trans lnk, slotJudged_of_after (c := true) (by simp) ?_,
    frame.trans (marked_lossFrame i a), marked.process.trk.trans trk, ?_, potKept_trans (potKept_of_eq pot) (marked_pot a)⟩
  · exact (marked_slot a (by unfold Judged; decide)).trans held
  · exact framed_trans framed (framed_mono marked.framed (List.nil_subset _) (List.Subset.refl _) (List.Subset.refl _))

end Sys2Proof.PreheatLoops
end

section
/-! THEOREM. O47: the ages of a signal. -/

namespace Sys2Proof.PreheatLoops

open Sys2Proof.Machine Sys2Proof.Safety Sys2Proof.SelectiveFluxing

theorem classOf_awaited {s : State} {i : SignalId} (absent : (signal s i).state = .absent)
    (has : mapped s i = true) : classOf s i = .awaited := by
  unfold classOf; rw [absent, has]; rfl

/-- Settles O47: each timer due at its time; one lemma of the loss serves both ways to LOST. -/
theorem signalAges : Obligations.SignalAges := by
  unfold Obligations.SignalAges
  intro s i m t0 hold lost run entry hasHold hasLost put frame others lostOne fails unfed potLost faults
  have framed {t : State} (h : LossFrame i s t) : frame t :=
    ⟨h.tbs, h.mge, h.mdc, h.lines, h.now, h.limits, h.pos, h.ring, h.queue⟩
  have pots {o : SignalId} (pair : PotPair i o) : potLost (becomeLost s i) o := by
    refine ⟨fun other => ?_, fun v other value => ?_, fun absent has => ?_⟩
    · obtain ⟨loop, degraded, sensor, active, resting⟩ :=
        potLost_both pair (becomeLost_pot pair) (classOf_eq_lost.mpr other)
      refine ⟨loop, degraded, sensor, fun h => ?_, resting⟩
      obtain ⟨⟨feeder, enabled, grams⟩, state, idle, -, -, -⟩ := active h
      exact ⟨state, ⟨feeder, enabled, grams⟩, idle⟩
    · obtain ⟨pv, degraded, alarm, hot, cool⟩ :=
        potLost_usable pair (becomeLost_pot pair) (classOf_eq_usable.mpr other) value
      exact ⟨pv, degraded, fun x hx => ⟨alarm x hx, fun above => hot ⟨x, hx, above⟩⟩,
        fun below => cool fun ⟨x, hx, above⟩ => absurd above (not_lt.mpr (below x hx))⟩
    · exact potLost_awaited pair (becomeLost_pot pair) (classOf_awaited absent has)
  have loses : (becomeLost s i).lnk = put .lost ∧ frame (becomeLost s i) ∧ others (becomeLost s i) ∧
      faults (becomeLost s i) := by
    obtain ⟨lnk, h⟩ := lost_frame (s := s) (i := i) rfl
    refine ⟨lnk, framed h, ⟨h.faults, h.lockout, fun l other pot => h.loops l ⟨other, pot⟩, h.slots⟩,
      fun l => lost_zone rfl, fun first => pots (.inl ⟨first, rfl⟩), fun second => pots (.inr ⟨second, rfl⟩),
      fun feed => ?_, lost_potKept rfl⟩
    obtain ⟨feeder, enabled, grams⟩ := lost_feed (s := s) rfl feed
    exact ⟨feeder, enabled, grams⟩
  refine ⟨fun state fresh => ?_, fun state fresh => ?_, fun state since => ?_⟩
  · obtain ⟨t, held, lnk, ⟨opens, stays, -⟩, h, trk, kept, pot⟩ := held_event s i
    obtain ⟨early, late⟩ := timed (s := s) (u := becomeHeld s i) (holdDue_eq state fresh entry hasHold)
    rw [exec_holdTime run]
    refine ⟨fun e => by rw [early e], fun e => ⟨t, by rw [late e, held], lnk, ?_, opens trivial, framed h, trk, kept, pot⟩⟩
    cases was : s.ilu.slots[slotInputHeld].live with
    | false => rw [opens trivial was]
    | true => rw [stays trivial was]; exact was
  · obtain ⟨early, late⟩ := timed (s := s) (u := becomeLost s i) (lostDue_eq state fresh entry hasLost)
    rw [exec_lostTime run]
    exact ⟨fun e => by rw [early e], fun e => ⟨_, by rw [late e], loses⟩⟩
  · obtain ⟨early, late⟩ := timed (s := s) (u := becomeLost s i) (absentDue_eq state since entry hasLost)
    rw [exec_absent run]
    exact ⟨fun e => by rw [early e], fun e => ⟨_, by rw [late e], loses⟩⟩

end Sys2Proof.PreheatLoops
end
